-- ==== Sys2Proof/Word.lean ====
section
/-! DEFINITION. The byte of the link and the sparse table type of the record array. -/

namespace Sys2Proof

/-- A byte of a frame (R181). -/
abbrev Byte := BitVec 8

/-- A sparse table: numbered records, strictly rising, none equal to what an unlisted number reads as (entry 32). -/
abbrev Table (α : Type) := List (Nat × α)

end Sys2Proof
end

