-- ==== Sys2Proof/Config.lean ====
section
/-! DEFINITION. The fixed bounds of the device and the values its specification leaves open. The open values have no
body: nothing can evaluate them, and a claim holds whatever they are. -/

namespace Sys2Proof.Config

/-- The largest time and the largest card amount, 2^32 − 1 (R1, R7). -/
def maxTime : Nat := 4294967295

/-- The bound of a position amount, 2^47 − 1 (R2). -/
def posMax : Int := 140737488355327

/-- The number of directory slots (R14). -/
def nSlots : Nat := 32768

/-- The length of a probe window (R15). -/
def window : Nat := 32

/-- The number of merchant records (R99). -/
def nMerchants : Nat := 512

/-- The capacity of the Hold Table (R52). -/
def maxHolds : Nat := 4096

/-- The open holds one card may have (R28, R57). -/
def maxCardHolds : Nat := 4

/-- The number of request slots (R183). -/
def nPortSlots : Nat := 16

/-- A response byte whose value the spec does not state: by the place of the slot and the position in the frame
(entry 13). DESIGN CHOICE, free value. -/
opaque freeByte : Nat → Nat → Byte

/-- Whether a request that fails both its amount check and another acceptance check is answered BAD_AMOUNT (entry 11).
DESIGN CHOICE, free value. -/
opaque amountJudgedFirst : Bool

/-- Whether nATTN is low while the device is stopped (entry 31). DESIGN CHOICE, free value. -/
opaque attnWhenStopped : Bool

end Sys2Proof.Config
end

