-- ==== Sys2Proof/Syntax.lean ====
section
/-! DEFINITION. The commands of the device: one constructor of `Instr` for each row of spec/opcode_table.json, with the
fields the row's frame or event carries. A request row names the request by its fields (entry 1). -/

namespace Sys2Proof

/-- Schedule select or selector (R99, R190). -/
inductive Select where
  | a | b
  deriving DecidableEq, Repr

/-- Why a card retires (R28). -/
inductive RetireReason where
  | cashOut | closed | expired | transferred
  deriving DecidableEq, Repr

/-- The source of a SCHEDULE_READ: the open, the staged or the closing schedule (R123). -/
inductive ScheduleSource where
  | opened | staged | closing
  deriving DecidableEq, Repr

/-- The limits groups (R193). -/
inductive LimitsGroup where
  | value | monitor | device
  deriving DecidableEq, Repr

/-- The kinds of CONDITION_SCAN (R163). -/
inductive ScanKind where
  | merchant | card
  deriving DecidableEq, Repr

/-- The selectable warning levels, 3.00, 2.95, 2.90 and 2.85 V (R170). -/
inductive WarningLevel where
  | v300 | v295 | v290 | v285
  deriving DecidableEq, Repr

/-- A fee schedule: tier count n, thresholds, tier rates, allowance rate (R121). -/
structure Schedule where
  tiers : Nat
  t1 : Nat
  t2 : Nat
  t3 : Nat
  c1 : Nat
  c2 : Nat
  c3 : Nat
  c4 : Nat
  allowance : Nat
  deriving DecidableEq, Repr

/-- The five settings of a merchant (R99). -/
structure Settings where
  select : Select
  partialAllowed : Bool
  tolerance : Nat
  salesPermitted : Bool
  refundsPermitted : Bool
  deriving DecidableEq, Repr

/-- The VALUE group of the limits (R193). -/
structure ValueLimits where
  cap : Nat
  holdMin : Nat
  holdMax : Nat
  deriving DecidableEq, Repr

/-- The MONITOR group of the limits (R151, R193). -/
structure MonitorLimits where
  ratio : Nat
  refundFloor : Nat
  qualTime : Nat
  deficitLimit : Nat
  velocityLimit : Nat
  velocityWindow : Nat
  dirWatermark : Nat
  holdWatermark : Nat
  deriving DecidableEq, Repr

/-- The DEVICE group of the limits (R193). The enable mask is numbered as the event sets, report and operate as the class
sets (R190). -/
structure DeviceLimits where
  warning : WarningLevel
  guardTime : Nat
  alarmEnable : Bool
  alarmTime : Nat
  enable : BitVec 8
  report : BitVec 6
  operate : BitVec 6
  deriving DecidableEq, Repr

/-- What the Supply Watch measures at a step: VDD in millivolts and its oscillator's count of milliseconds (R170, R171;
entry 6). -/
structure SupplyReading where
  vdd : Nat
  ms : Nat
  deriving DecidableEq, Repr

/-- The commands: the rows of spec/opcode_table.json in the table's order. -/
inductive Instr where
  | nselFall
  /-- `sdi`: the level of SDI at each rising edge of SCLK counted while nSEL was low (R181). -/
  | nselRise (sdi : List Bool)
  | tick
  | expiryPosting
  | alarmCutover
  | statementStep
  | latchPosting
  | nresetFall
  | nresetRelease (reading : SupplyReading)
  | powerUp (reading : SupplyReading) (vholdCharged : Bool)
  | supplyStop (reading : SupplyReading)
  | supplyBelowWarning (reading : SupplyReading)
  | supplyAboveRecovery (reading : SupplyReading)
  | guardTimerRunsOut (reading : SupplyReading)
  | cardIssue (serial merchant amount validity : Nat)
  | cardReload (serial merchant amount : Nat)
  | cardInquire (serial page : Nat)
  | cardLock (serial : Nat)
  | cardUnlock (serial : Nat)
  | cardRetire (serial : Nat) (reason : RetireReason)
  | cardTransfer (source target : Nat)
  | cardPurge (serial : Nat)
  | redeem (serial merchant amount : Nat)
  | holdPlace (serial merchant amount lifetime : Nat)
  | holdComplete (hold merchant amount : Nat)
  | holdVoid (hold merchant : Nat)
  | holdInquire (hold page : Nat)
  | refund (serial merchant amount : Nat)
  | merchantEnrol (merchant : Nat) (settings : Settings)
  | merchantUpdate (merchant : Nat) (settings : Settings)
  | merchantSuspend (merchant : Nat)
  | merchantResume (merchant : Nat)
  | merchantWithdraw (merchant : Nat)
  | merchantInquire (merchant page : Nat)
  | scheduleStage (selector : Select) (schedule : Schedule)
  | scheduleRead (selector : Select) (source : ScheduleSource)
  | periodClose
  | statementRead (merchant page : Nat)
  | statementsRelease (period : Nat)
  | totalsRead (page : Nat)
  | conditionsClearDevice
  | conditionsClearMerchant (merchant : Nat)
  | conditionsClearAllMerchants
  | conditionsClearCard (serial : Nat)
  | conditionScan (kind : ScanKind) (start : Nat)
  | eventsRead
  | eventsClear (flags : BitVec 8)
  | clockSet (value : Nat)
  | clockRead
  | limitsSetValue (limits : ValueLimits)
  | limitsSetMonitor (limits : MonitorLimits)
  | limitsSetDevice (limits : DeviceLimits)
  | limitsRead (group : LimitsGroup)
  | postingEnd (reading : SupplyReading)
  deriving DecidableEq, Repr

end Sys2Proof
end

