-- ==== Sys2Proof/WellFormed.lean ====
section
/-! DEFINITION. The well-formed commands: every operand of a request lies in the width of its field and passes the checks
made at acceptance (R1, R5, R6, R186, R190), so that a frame can carry it and the port goes on with it. -/

namespace Sys2Proof

/-- A card serial: 1 to 2^64 − 1 (R6). -/
def serialOk (n : Nat) : Bool := decide (1 ≤ n) && decide (n < 2 ^ 64)

/-- A merchant number: 0 to 511 (R6). -/
def merchantOk (n : Nat) : Bool := decide (n < 512)

/-- A hold id: 1 to 65,535 (R6). -/
def holdIdOk (n : Nat) : Bool := decide (1 ≤ n) && decide (n < 65536)

/-- An amount field of the six requests whose amount must be 1 or more (R1). -/
def amountOk (n : Nat) : Bool := decide (1 ≤ n) && decide (n < 2 ^ 32)

/-- A time or duration field (R7). -/
def timeOk (n : Nat) : Bool := decide (n < 2 ^ 32)

/-- The settings of an enrolment or update: a tolerance of 0 to 5,000 (R5). -/
def settingsOk (s : Settings) : Bool := decide (s.tolerance ≤ 5000)

/-- A schedule as a frame carries it: each field within its width (R121); validity is judged in the posting (R122). -/
def scheduleFits (s : Schedule) : Bool :=
  decide (s.tiers < 2 ^ 8) && decide (s.t1 < 2 ^ 40) && decide (s.t2 < 2 ^ 40) && decide (s.t3 < 2 ^ 40) &&
  decide (s.c1 < 2 ^ 16) && decide (s.c2 < 2 ^ 16) && decide (s.c3 < 2 ^ 16) && decide (s.c4 < 2 ^ 16) &&
  decide (s.allowance < 2 ^ 16)

/-- The VALUE group within its field widths (R193); its ranges are judged in the posting. -/
def valueFits (l : ValueLimits) : Bool := timeOk l.cap && timeOk l.holdMin && timeOk l.holdMax

/-- The MONITOR group within its field widths (R193); its ranges are judged in the posting. -/
def monitorFits (l : MonitorLimits) : Bool :=
  decide (l.ratio < 2 ^ 16) && decide (l.refundFloor < 2 ^ 40) && timeOk l.qualTime && decide (l.deficitLimit < 2 ^ 40) &&
  decide (l.velocityLimit < 2 ^ 8) && timeOk l.velocityWindow && decide (l.dirWatermark < 2 ^ 16) &&
  decide (l.holdWatermark < 2 ^ 16)

/-- The DEVICE group within its field widths; operate has bits 5 to 3 only (R190, R193). -/
def deviceFits (l : DeviceLimits) : Bool :=
  decide (l.guardTime < 2 ^ 8) && timeOk l.alarmTime && decide (l.operate &&& 0b000111#6 = 0#6)

/-- The well-formed commands. -/
def WellFormed : Instr → Bool
  | .nselFall => true
  | .nselRise _ => true
  | .tick => true
  | .expiryPosting => true
  | .alarmCutover => true
  | .statementStep => true
  | .latchPosting => true
  | .nresetFall => true
  | .nresetRelease _ => true
  | .powerUp _ _ => true
  | .supplyStop _ => true
  | .supplyBelowWarning _ => true
  | .supplyAboveRecovery _ => true
  | .guardTimerRunsOut _ => true
  | .cardIssue x m a v => serialOk x && merchantOk m && amountOk a && timeOk v
  | .cardReload x m a => serialOk x && merchantOk m && amountOk a
  | .cardInquire x p => serialOk x && decide (p ≤ 1)
  | .cardLock x => serialOk x
  | .cardUnlock x => serialOk x
  | .cardRetire x r => serialOk x && decide (r ≠ .transferred)
  | .cardTransfer x y => serialOk x && serialOk y
  | .cardPurge x => serialOk x
  | .redeem x m a => serialOk x && merchantOk m && amountOk a
  | .holdPlace x m a l => serialOk x && merchantOk m && amountOk a && timeOk l
  | .holdComplete h m a => holdIdOk h && merchantOk m && amountOk a
  | .holdVoid h m => holdIdOk h && merchantOk m
  | .holdInquire h p => holdIdOk h && decide (p ≤ 1)
  | .refund x m a => serialOk x && merchantOk m && amountOk a
  | .merchantEnrol m s => merchantOk m && settingsOk s
  | .merchantUpdate m s => merchantOk m && settingsOk s
  | .merchantSuspend m => merchantOk m
  | .merchantResume m => merchantOk m
  | .merchantWithdraw m => merchantOk m && decide (m ≠ 0)
  | .merchantInquire m p => merchantOk m && decide (p ≤ 1)
  | .scheduleStage _ s => scheduleFits s
  | .scheduleRead _ _ => true
  | .periodClose => true
  | .statementRead m p => merchantOk m && decide (p ≤ 2)
  | .statementsRelease q => decide (q ≤ 7)
  | .totalsRead p => decide (p ≤ 3)
  | .conditionsClearDevice => true
  | .conditionsClearMerchant m => merchantOk m
  | .conditionsClearAllMerchants => true
  | .conditionsClearCard x => serialOk x
  | .conditionScan .merchant k => merchantOk k
  | .conditionScan .card k => decide (k < 32768)
  | .eventsRead => true
  | .eventsClear _ => true
  | .clockSet v => timeOk v
  | .clockRead => true
  | .limitsSetValue l => valueFits l
  | .limitsSetMonitor l => monitorFits l
  | .limitsSetDevice l => deviceFits l
  | .limitsRead _ => true
  | .postingEnd _ => true

/-- The commands that are requests of the link (R190): every row that a frame can carry. -/
def isRequest : Instr → Bool
  | .nselFall => false
  | .nselRise _ => false
  | .tick => false
  | .expiryPosting => false
  | .alarmCutover => false
  | .statementStep => false
  | .latchPosting => false
  | .nresetFall => false
  | .nresetRelease _ => false
  | .powerUp _ _ => false
  | .supplyStop _ => false
  | .supplyBelowWarning _ => false
  | .supplyAboveRecovery _ => false
  | .guardTimerRunsOut _ => false
  | .cardIssue _ _ _ _ => true
  | .cardReload _ _ _ => true
  | .cardInquire _ _ => true
  | .cardLock _ => true
  | .cardUnlock _ => true
  | .cardRetire _ _ => true
  | .cardTransfer _ _ => true
  | .cardPurge _ => true
  | .redeem _ _ _ => true
  | .holdPlace _ _ _ _ => true
  | .holdComplete _ _ _ => true
  | .holdVoid _ _ => true
  | .holdInquire _ _ => true
  | .refund _ _ _ => true
  | .merchantEnrol _ _ => true
  | .merchantUpdate _ _ => true
  | .merchantSuspend _ => true
  | .merchantResume _ => true
  | .merchantWithdraw _ => true
  | .merchantInquire _ _ => true
  | .scheduleStage _ _ => true
  | .scheduleRead _ _ => true
  | .periodClose => true
  | .statementRead _ _ => true
  | .statementsRelease _ => true
  | .totalsRead _ => true
  | .conditionsClearDevice => true
  | .conditionsClearMerchant _ => true
  | .conditionsClearAllMerchants => true
  | .conditionsClearCard _ => true
  | .conditionScan _ _ => true
  | .eventsRead => true
  | .eventsClear _ => true
  | .clockSet _ => true
  | .clockRead => true
  | .limitsSetValue _ => true
  | .limitsSetMonitor _ => true
  | .limitsSetDevice _ => true
  | .limitsRead _ => true
  | .postingEnd _ => false

end Sys2Proof
end

