-- ==== Sys2Proof/Decode.lean ====
section
/-! DEFINITION. Frames: their bytes and CRC (R181, R182), the request a frame's code and parameters spell and the checks
made on it at acceptance (R186, R190 to R193), and the encoder of requests. No row of the table gives bits, so
`decodeTableWord` reads nothing. -/

namespace Sys2Proof

/-- The number a run of bits spells, most significant first (R181). -/
def bitsNat (bits : List Bool) : Nat := bits.foldl (fun n b => 2 * n + b.toNat) 0

/-- The whole bytes of a run of bits, most significant bit first (R181). -/
def toBytes : List Bool → List Byte
  | b7 :: b6 :: b5 :: b4 :: b3 :: b2 :: b1 :: b0 :: rest =>
      BitVec.ofNat 8 (bitsNat [b7, b6, b5, b4, b3, b2, b1, b0]) :: toBytes rest
  | _ => []

/-- The bits of a byte as they are sent (R181). -/
def byteBits (b : Byte) : List Bool :=
  [b.getLsbD 7, b.getLsbD 6, b.getLsbD 5, b.getLsbD 4, b.getLsbD 3, b.getLsbD 2, b.getLsbD 1, b.getLsbD 0]

/-- The number a multi-byte field carries, most significant byte first (R181). -/
def beNat (bytes : List Byte) : Nat := bytes.foldl (fun n b => 256 * n + b.toNat) 0

/-- The field of `w` bytes that carries `n` (R181). -/
def beBytes : Nat → Nat → List Byte
  | 0, _ => []
  | w + 1, n => BitVec.ofNat 8 (n / 256 ^ w) :: beBytes w n

/-- One bit into the CRC: generator x^16 + x^12 + x^5 + 1, not reflected (R182). -/
def crcBit (crc : BitVec 16) (b : Bool) : BitVec 16 :=
  if (crc.getLsbD 15 ^^ b) = true then (crc <<< 1) ^^^ 0x1021#16 else crc <<< 1

/-- The CRC of a run of bits, from FFFFh, not inverted (R182). -/
def crcBits (bits : List Bool) : BitVec 16 := bits.foldl crcBit 0xFFFF#16

/-- The CRC of a run of bytes in the order sent (R182). -/
def crcBytes (bytes : List Byte) : BitVec 16 := crcBits (bytes.flatMap byteBits)

/-- A frame of the right length: exactly 256 rising edges (R181). -/
def rightLength (sdi : List Bool) : Bool := decide (sdi.length = 256)

/-- A frame of the right length is good when the CRC of bytes 0 to 29 is in bytes 30 and 31 (R182). -/
def goodCrc (sdi : List Bool) : Bool := decide ((crcBits (sdi.take 240)).toNat = bitsNat (sdi.drop 240))

/-- The parameter field of `w` bytes at byte `at'` of the frame; parameters begin at byte 2 (R191). -/
def param (ps : List Byte) (at' w : Nat) : Nat := beNat ((ps.drop (at' - 2)).take w)

/-- What the port finds at acceptance (R186): an unknown code, a failed check, or a request that goes on by its class. -/
inductive Verdict where
  | unknown
  | badParameter
  | badAmount
  | ok (i : Instr)
  deriving DecidableEq, Repr

/-- A request all of whose acceptance checks are in `good` (R6, R190). -/
def checked (good : Bool) (i : Instr) : Verdict := if good then .ok i else .badParameter

/-- A request whose amount must be 1 or more (R1). Which answer a request failing both checks takes is open
(entry 11). -/
def checkedAmount (amount : Nat) (good : Bool) (i : Instr) : Verdict :=
  if amount = 0 then
    if good then .badAmount else if Config.amountJudgedFirst then .badAmount else .badParameter
  else checked good i

/-- A selector byte: 0 A, 1 B (R190). -/
def readSelect : Nat → Option Select
  | 0 => some .a
  | 1 => some .b
  | _ => none

/-- The encoding of a selector (R190). -/
def selectCode : Select → Nat
  | .a => 0
  | .b => 1

/-- A yes-or-no byte (R190). -/
def readYesNo : Nat → Option Bool
  | 0 => some false
  | 1 => some true
  | _ => none

/-- The encoding of a yes-or-no field (R190). -/
def yesNoCode (b : Bool) : Nat := b.toNat

/-- A reason CARD_RETIRE may carry: not absent and not TRANSFERRED (R39, R190). -/
def readReason : Nat → Option RetireReason
  | 1 => some .cashOut
  | 2 => some .closed
  | 3 => some .expired
  | _ => none

/-- The encoding of a retire reason (R190). -/
def reasonCode : RetireReason → Nat
  | .cashOut => 1
  | .closed => 2
  | .expired => 3
  | .transferred => 4

/-- A schedule source byte (R190). -/
def readSource : Nat → Option ScheduleSource
  | 0 => some .opened
  | 1 => some .staged
  | 2 => some .closing
  | _ => none

/-- The encoding of a schedule source (R190). -/
def sourceCode : ScheduleSource → Nat
  | .opened => 0
  | .staged => 1
  | .closing => 2

/-- A warning level byte (R190). -/
def readWarning : Nat → Option WarningLevel
  | 0 => some .v300
  | 1 => some .v295
  | 2 => some .v290
  | 3 => some .v285
  | _ => none

/-- The encoding of a warning level (R190). -/
def warningCode : WarningLevel → Nat
  | .v300 => 0
  | .v295 => 1
  | .v290 => 2
  | .v285 => 3

/-- A limits group selector (R193). -/
def readGroup : Nat → Option LimitsGroup
  | 0 => some .value
  | 1 => some .monitor
  | 2 => some .device
  | _ => none

/-- The encoding of a limits group (R193). -/
def groupCode : LimitsGroup → Nat
  | .value => 0
  | .monitor => 1
  | .device => 2

/-- The settings of an enrolment or update, when their enumerated fields are within their encodings (R104, R192). -/
def readSettings (ps : List Byte) : Option Settings :=
  match readSelect (param ps 4 1), readYesNo (param ps 5 1), readYesNo (param ps 8 1), readYesNo (param ps 9 1) with
  | some sel, some part, some sales, some refunds =>
      some { select := sel, partialAllowed := part, tolerance := param ps 6 2,
             salesPermitted := sales, refundsPermitted := refunds }
  | _, _, _, _ => none

/-- The schedule a SCHEDULE_STAGE carries (R192). -/
def readSchedule (ps : List Byte) : Schedule :=
  { tiers := param ps 3 1, t1 := param ps 4 5, t2 := param ps 9 5, t3 := param ps 14 5, c1 := param ps 19 2,
    c2 := param ps 21 2, c3 := param ps 23 2, c4 := param ps 25 2, allowance := param ps 27 2 }

/-- An enrolment or update: merchant number, settings and tolerance are checked at acceptance (R104, R106). -/
def decodeSettings (ps : List Byte) (mk : Nat → Settings → Instr) : Verdict :=
  match readSettings ps with
  | none => .badParameter
  | some st => checked (merchantOk (param ps 2 2) && settingsOk st) (mk (param ps 2 2) st)

/-- The DEVICE group a LIMITS_SET carries, when its enumerated fields are within their encodings (entry 15). Bits of the
class sets that carry no meaning are not read (R190). -/
def readDevice (ps : List Byte) : Option DeviceLimits :=
  match readWarning (param ps 3 1), readYesNo (param ps 5 1) with
  | some w, some on =>
      some { warning := w, guardTime := param ps 4 1, alarmEnable := on, alarmTime := param ps 6 4,
             enable := BitVec.ofNat 8 (param ps 10 1), report := BitVec.ofNat 6 (param ps 11 1),
             operate := BitVec.ofNat 6 (param ps 12 1) &&& 0b111000#6 }
  | _, _ => none

/-- LIMITS_SET by its group (R193). -/
def decodeLimitsSet (ps : List Byte) : Verdict :=
  match readGroup (param ps 2 1) with
  | none => .badParameter
  | some .value =>
      .ok (.limitsSetValue { cap := param ps 3 4, holdMin := param ps 7 4, holdMax := param ps 11 4 })
  | some .monitor =>
      .ok (.limitsSetMonitor
        { ratio := param ps 3 2, refundFloor := param ps 5 5, qualTime := param ps 10 4, deficitLimit := param ps 14 5,
          velocityLimit := param ps 19 1, velocityWindow := param ps 20 4, dirWatermark := param ps 24 2,
          holdWatermark := param ps 26 2 })
  | some .device =>
      match readDevice ps with
      | none => .badParameter
      | some d => .ok (.limitsSetDevice d)

/-- CONDITIONS_CLEAR by its scope; a field the scope does not read is not checked (R160, R192). -/
def decodeClear (ps : List Byte) : Verdict :=
  match param ps 2 1 with
  | 0 => .ok .conditionsClearDevice
  | 1 => checked (merchantOk (param ps 3 2)) (.conditionsClearMerchant (param ps 3 2))
  | 2 => .ok .conditionsClearAllMerchants
  | 3 => checked (serialOk (param ps 5 8)) (.conditionsClearCard (param ps 5 8))
  | _ => .badParameter

/-- CONDITION_SCAN by its kind (R163). -/
def decodeScan (ps : List Byte) : Verdict :=
  match param ps 2 1 with
  | 0 => checked (merchantOk (param ps 3 2)) (.conditionScan .merchant (param ps 3 2))
  | 1 => checked (decide (param ps 3 2 < 32768)) (.conditionScan .card (param ps 3 2))
  | _ => .badParameter

/-- SCHEDULE_STAGE: only the selector is checked at acceptance (R122). -/
def decodeStage (ps : List Byte) : Verdict :=
  match readSelect (param ps 2 1) with
  | none => .badParameter
  | some sel => .ok (.scheduleStage sel (readSchedule ps))

/-- SCHEDULE_READ: selector and source are checked at acceptance (R123). -/
def decodeScheduleRead (ps : List Byte) : Verdict :=
  match readSelect (param ps 2 1), readSource (param ps 3 1) with
  | some sel, some src => .ok (.scheduleRead sel src)
  | _, _ => .badParameter

/-- CARD_RETIRE: serial and reason are checked at acceptance (R39). -/
def decodeRetire (ps : List Byte) : Verdict :=
  match readReason (param ps 10 1) with
  | none => .badParameter
  | some r => checked (serialOk (param ps 2 8)) (.cardRetire (param ps 2 8) r)

/-- LIMITS_READ: the group is checked at acceptance (R193). -/
def decodeLimitsRead (ps : List Byte) : Verdict :=
  match readGroup (param ps 2 1) with
  | none => .badParameter
  | some g => .ok (.limitsRead g)

/-- The request a code and parameter bytes 2 to 29 spell, with the acceptance checks of its chapter (R186, R190 to
R193). -/
def decodeRequest (code : Nat) (ps : List Byte) : Verdict :=
  let card := param ps 2 8
  let m10 := param ps 10 2
  let hold := param ps 2 2
  let m4 := param ps 4 2
  let m2 := param ps 2 2
  match code with
  | 0x10 => checkedAmount (param ps 12 4) (serialOk card && merchantOk m10)
      (.cardIssue card m10 (param ps 12 4) (param ps 16 4))
  | 0x11 => checkedAmount (param ps 12 4) (serialOk card && merchantOk m10) (.cardReload card m10 (param ps 12 4))
  | 0x12 => checked (serialOk card && decide (param ps 10 1 ≤ 1)) (.cardInquire card (param ps 10 1))
  | 0x13 => checked (serialOk card) (.cardLock card)
  | 0x14 => checked (serialOk card) (.cardUnlock card)
  | 0x15 => decodeRetire ps
  | 0x16 => checked (serialOk card && serialOk (param ps 10 8)) (.cardTransfer card (param ps 10 8))
  | 0x17 => checked (serialOk card) (.cardPurge card)
  | 0x20 => checkedAmount (param ps 12 4) (serialOk card && merchantOk m10) (.redeem card m10 (param ps 12 4))
  | 0x21 => checkedAmount (param ps 12 4) (serialOk card && merchantOk m10)
      (.holdPlace card m10 (param ps 12 4) (param ps 16 4))
  | 0x22 => checkedAmount (param ps 6 4) (holdIdOk hold && merchantOk m4) (.holdComplete hold m4 (param ps 6 4))
  | 0x23 => checked (holdIdOk hold && merchantOk m4) (.holdVoid hold m4)
  | 0x24 => checked (holdIdOk hold && decide (param ps 4 1 ≤ 1)) (.holdInquire hold (param ps 4 1))
  | 0x25 => checkedAmount (param ps 12 4) (serialOk card && merchantOk m10) (.refund card m10 (param ps 12 4))
  | 0x30 => decodeSettings ps .merchantEnrol
  | 0x31 => decodeSettings ps .merchantUpdate
  | 0x32 => checked (merchantOk m2) (.merchantSuspend m2)
  | 0x33 => checked (merchantOk m2) (.merchantResume m2)
  | 0x34 => checked (merchantOk m2 && decide (m2 ≠ 0)) (.merchantWithdraw m2)
  | 0x35 => checked (merchantOk m2 && decide (param ps 4 1 ≤ 1)) (.merchantInquire m2 (param ps 4 1))
  | 0x40 => decodeStage ps
  | 0x41 => decodeScheduleRead ps
  | 0x42 => .ok .periodClose
  | 0x43 => checked (merchantOk m2 && decide (param ps 4 1 ≤ 2)) (.statementRead m2 (param ps 4 1))
  | 0x44 => checked (decide (param ps 2 1 ≤ 7)) (.statementsRelease (param ps 2 1))
  | 0x45 => checked (decide (param ps 2 1 ≤ 3)) (.totalsRead (param ps 2 1))
  | 0x50 => decodeClear ps
  | 0x51 => decodeScan ps
  | 0x52 => .ok .eventsRead
  | 0x53 => .ok (.eventsClear (BitVec.ofNat 8 (param ps 2 1)))
  | 0x60 => .ok (.clockSet (param ps 2 4))
  | 0x61 => .ok .clockRead
  | 0x62 => decodeLimitsSet ps
  | 0x63 => decodeLimitsRead ps
  | _ => .unknown

/-- The parameter bytes of settings after the merchant number (R192). -/
def settingsBytes (st : Settings) : List Byte :=
  beBytes 1 (selectCode st.select) ++ beBytes 1 (yesNoCode st.partialAllowed) ++ beBytes 2 st.tolerance ++
  beBytes 1 (yesNoCode st.salesPermitted) ++ beBytes 1 (yesNoCode st.refundsPermitted)

/-- The fields of a schedule as a frame carries them (R192). -/
def scheduleBytes (sc : Schedule) : List Byte :=
  beBytes 1 sc.tiers ++ beBytes 5 sc.t1 ++ beBytes 5 sc.t2 ++ beBytes 5 sc.t3 ++ beBytes 2 sc.c1 ++ beBytes 2 sc.c2 ++
  beBytes 2 sc.c3 ++ beBytes 2 sc.c4 ++ beBytes 2 sc.allowance

/-- The fields of the VALUE group (R193). -/
def valueBytes (l : ValueLimits) : List Byte := beBytes 4 l.cap ++ beBytes 4 l.holdMin ++ beBytes 4 l.holdMax

/-- The fields of the MONITOR group (R193). -/
def monitorBytes (l : MonitorLimits) : List Byte :=
  beBytes 2 l.ratio ++ beBytes 5 l.refundFloor ++ beBytes 4 l.qualTime ++ beBytes 5 l.deficitLimit ++
  beBytes 1 l.velocityLimit ++ beBytes 4 l.velocityWindow ++ beBytes 2 l.dirWatermark ++ beBytes 2 l.holdWatermark

/-- The fields of the DEVICE group (R193). -/
def deviceBytes (l : DeviceLimits) : List Byte :=
  beBytes 1 (warningCode l.warning) ++ beBytes 1 l.guardTime ++ beBytes 1 (yesNoCode l.alarmEnable) ++
  beBytes 4 l.alarmTime ++ beBytes 1 l.enable.toNat ++ beBytes 1 l.report.toNat ++ beBytes 1 l.operate.toNat

/-- The request code and the parameter bytes of a request (R190 to R193); none for a command that is no request. -/
def encodeRequest : Instr → Option (Nat × List Byte)
  | .cardIssue x m a v => some (0x10, beBytes 8 x ++ beBytes 2 m ++ beBytes 4 a ++ beBytes 4 v)
  | .cardReload x m a => some (0x11, beBytes 8 x ++ beBytes 2 m ++ beBytes 4 a)
  | .cardInquire x p => some (0x12, beBytes 8 x ++ beBytes 1 p)
  | .cardLock x => some (0x13, beBytes 8 x)
  | .cardUnlock x => some (0x14, beBytes 8 x)
  | .cardRetire x r => some (0x15, beBytes 8 x ++ beBytes 1 (reasonCode r))
  | .cardTransfer x y => some (0x16, beBytes 8 x ++ beBytes 8 y)
  | .cardPurge x => some (0x17, beBytes 8 x)
  | .redeem x m a => some (0x20, beBytes 8 x ++ beBytes 2 m ++ beBytes 4 a)
  | .holdPlace x m a l => some (0x21, beBytes 8 x ++ beBytes 2 m ++ beBytes 4 a ++ beBytes 4 l)
  | .holdComplete h m a => some (0x22, beBytes 2 h ++ beBytes 2 m ++ beBytes 4 a)
  | .holdVoid h m => some (0x23, beBytes 2 h ++ beBytes 2 m)
  | .holdInquire h p => some (0x24, beBytes 2 h ++ beBytes 1 p)
  | .refund x m a => some (0x25, beBytes 8 x ++ beBytes 2 m ++ beBytes 4 a)
  | .merchantEnrol m st => some (0x30, beBytes 2 m ++ settingsBytes st)
  | .merchantUpdate m st => some (0x31, beBytes 2 m ++ settingsBytes st)
  | .merchantSuspend m => some (0x32, beBytes 2 m)
  | .merchantResume m => some (0x33, beBytes 2 m)
  | .merchantWithdraw m => some (0x34, beBytes 2 m)
  | .merchantInquire m p => some (0x35, beBytes 2 m ++ beBytes 1 p)
  | .scheduleStage sel sc => some (0x40, beBytes 1 (selectCode sel) ++ scheduleBytes sc)
  | .scheduleRead sel src => some (0x41, beBytes 1 (selectCode sel) ++ beBytes 1 (sourceCode src))
  | .periodClose => some (0x42, [])
  | .statementRead m p => some (0x43, beBytes 2 m ++ beBytes 1 p)
  | .statementsRelease q => some (0x44, beBytes 1 q)
  | .totalsRead p => some (0x45, beBytes 1 p)
  | .conditionsClearDevice => some (0x50, beBytes 1 0)
  | .conditionsClearMerchant m => some (0x50, beBytes 1 1 ++ beBytes 2 m)
  | .conditionsClearAllMerchants => some (0x50, beBytes 1 2)
  | .conditionsClearCard x => some (0x50, beBytes 1 3 ++ beBytes 2 0 ++ beBytes 8 x)
  | .conditionScan .merchant k => some (0x51, beBytes 1 0 ++ beBytes 2 k)
  | .conditionScan .card k => some (0x51, beBytes 1 1 ++ beBytes 2 k)
  | .eventsRead => some (0x52, [])
  | .eventsClear f => some (0x53, beBytes 1 f.toNat)
  | .clockSet v => some (0x60, beBytes 4 v)
  | .clockRead => some (0x61, [])
  | .limitsSetValue l => some (0x62, beBytes 1 0 ++ valueBytes l)
  | .limitsSetMonitor l => some (0x62, beBytes 1 1 ++ monitorBytes l)
  | .limitsSetDevice l => some (0x62, beBytes 1 2 ++ deviceBytes l)
  | .limitsRead g => some (0x63, beBytes 1 (groupCode g))
  | .nselFall => none
  | .nselRise _ => none
  | .tick => none
  | .expiryPosting => none
  | .alarmCutover => none
  | .statementStep => none
  | .latchPosting => none
  | .nresetFall => none
  | .nresetRelease _ => none
  | .powerUp _ _ => none
  | .supplyStop _ => none
  | .supplyBelowWarning _ => none
  | .supplyAboveRecovery _ => none
  | .guardTimerRunsOut _ => none
  | .postingEnd _ => none

/-- Parameter bytes followed by zeros up to byte 29 (R181). -/
def padParams (ps : List Byte) : List Byte := ps ++ List.replicate (28 - ps.length) 0#8

/-- The bits of a whole frame: bytes 0 to 29 and their CRC (R181, R182). -/
def frameBits (bytes : List Byte) : List Bool :=
  (bytes ++ beBytes 2 (crcBytes bytes).toNat).flatMap byteBits

/-- The inbound frame that carries a request under a tag (R181); the NOP frame for a command that is no request. -/
def requestFrame (tag : Byte) (i : Instr) : List Bool :=
  match encodeRequest i with
  | some (code, ps) => frameBits (BitVec.ofNat 8 code :: tag :: padParams ps)
  | none => frameBits (0#8 :: tag :: padParams [])

/-- The command a word of the table's bits spells: no row gives bits, so none. -/
def decodeTableWord (_nbits _w : Nat) : Option Instr := none

end Sys2Proof
end

