-- ==== Sys2Proof/Machine/State.lean ====
section
/-! DEFINITION. The state of the device: the record array, the volatile state of its nine blocks, its pins and the queue
of waiting commands; the outcomes that stop a step; and the state right after reset (entry 4). -/

namespace Sys2Proof.Machine

/-- The state of a directory slot (R14). -/
inductive DirSlot where
  | empty
  | used (serial : Nat)
  | vacated
  deriving DecidableEq, Repr

/-- The states of a card (R29). -/
inductive CardState where
  | active | locked | closing | retired
  deriving DecidableEq, Repr

/-- The lock causes of a card, a set drawn from HOST and VELOCITY (R28). -/
structure LockCauses where
  host : Bool
  velocity : Bool
  deriving DecidableEq, Repr

/-- A card record (R28). -/
structure Card where
  serial : Nat
  state : CardState
  locks : LockCauses
  available : Nat
  held : Nat
  openHolds : Nat
  issuer : Nat
  issuedAt : Nat
  lastPostingAt : Nat
  validUntil : Option Nat
  windowStart : Nat
  velocityCount : Nat
  velocityLatched : Bool
  retireReason : Option RetireReason
  retiredAt : Option Nat
  deriving DecidableEq, Repr

/-- An entry of the Hold Table (R52). -/
structure Hold where
  id : Nat
  slot : Nat
  merchant : Nat
  amount : Nat
  tolerance : Nat
  createdAt : Nat
  deadline : Nat
  deriving DecidableEq, Repr

/-- The states of a merchant (R100). -/
inductive MerchantState where
  | unenrolled | enrolled | suspended | withdrawn
  deriving DecidableEq, Repr

/-- A merchant record (R99). -/
structure Merchant where
  state : MerchantState
  settings : Settings
  openHolds : Nat
  refundLatched : Bool
  deficitLatched : Bool
  refundsBlocked : Bool
  salesBlocked : Bool
  withdrawnIn : Option Nat
  deriving DecidableEq, Repr

/-- The statement of a merchant for a closed period (R116, R146). -/
structure Statement where
  base : Int
  commission : Int
  allowance : Int
  net : Int
  payout : Int
  dOut : Int
  saturated : Bool
  deriving DecidableEq, Repr

/-- An entry of a position bank (R116). -/
structure Entry where
  r : Int
  f : Int
  s : Int
  k : Int
  dIn : Int
  postings : Nat
  captured : Option Select
  statement : Option Statement
  deriving DecidableEq, Repr

/-- The states of a bank (R117). -/
inductive BankState where
  | absent | opened | computing | ready
  deriving DecidableEq, Repr

/-- A position bank: its header (R117) and its entries (R116). -/
structure Bank where
  period : Nat
  state : BankState
  openedAt : Nat
  closedAt : Option Nat
  openingOutstanding : Int
  closedOutstanding : Option Int
  retiredInPeriod : Int
  scheduleA : Schedule
  scheduleB : Schedule
  saturated : Bool
  nextMerchant : Option Nat
  entries : Table Entry
  deriving DecidableEq, Repr

/-- The Totals record but for the volatile alarm-pending (R95). -/
structure Totals where
  outstanding : Int
  retiredValue : Int
  openPeriod : Nat
  closeDeferred : Bool
  floor : Nat
  deriving DecidableEq, Repr

/-- The limits record (R193). -/
structure Limits where
  value : ValueLimits
  monitor : MonitorLimits
  device : DeviceLimits
  deriving DecidableEq, Repr

/-- The record array: everything that outlives the supply. -/
structure Records where
  directory : Table DirSlot
  occupancy : Nat
  cards : Table Card
  holds : List Hold
  holdIdCounter : Nat
  merchants : Table Merchant
  openBank : Bank
  closingBank : Bank
  stagedA : Schedule
  stagedB : Schedule
  stagedAValid : Bool
  stagedBValid : Bool
  totals : Totals
  limits : Limits
  deriving DecidableEq, Repr

/-- The states of the Mall Clock (1.6). -/
inductive ClockState where
  | unset | set
  deriving DecidableEq, Repr

/-- The Mall Clock's volatile state (R8, R13). -/
structure MallClock where
  state : ClockState
  value : Nat
  dividerRunning : Bool
  deriving DecidableEq, Repr

/-- The result codes (R190). -/
inductive Result where
  | none | ok | partialApproval | deferred | unknownRequest | badParameter | badAmount
  | noCard | cardExists | directoryFull | cardLocked | cardClosing | cardRetired | cardExpired | notRetired
  | insufficient | capExceeded | holdsFull | cardHoldsFull | noHold | holdExpired | overTolerance | wrongMerchant
  | notEnrolled | alreadyEnrolled | merchantSuspended | notPermitted | salesBlocked | refundsBlocked | holdsOpen
  | statementPending | notReady | wrongPeriod | noStatement | scheduleInvalid | clockUnset | clockBehind | parked
  deriving DecidableEq, Repr

/-- What a response says: its result code and its result bytes from byte 4 on. A byte `none` is one whose value the spec
does not state (entry 13). -/
structure Answer where
  result : Result
  body : List (Option Byte)
  deriving DecidableEq, Repr

/-- An occupied request slot (R183): its place in acceptance order, request code and tag, bytes 2 to 29, and the serials
it names. -/
structure Slot where
  place : Nat
  code : Byte
  tag : Byte
  params : List Byte
  serials : List Nat
  deriving DecidableEq, Repr

/-- An ANSWERED slot with its response (R183). -/
structure Answered where
  slot : Slot
  answer : Answer
  deriving DecidableEq, Repr

/-- The Link Port (R183). The ACCEPTED slots stand in acceptance order, the ANSWERED ones in delivery order; the rest of
the sixteen are FREE (entry 7). `frame` is the frame in progress, with the status byte latched at its start (R184). -/
structure LinkPort where
  accepted : List Slot
  delivery : List Answered
  offered : Option Nat
  lastRejected : Bool
  lastNotTaken : Bool
  frame : Option Byte
  nextPlace : Nat
  deriving DecidableEq, Repr

/-- The requester kinds of the Posting Arbiter (R80). -/
inductive Kind where
  | link | expiry | settlement
  deriving DecidableEq, Repr

/-- What a posting serves (R88): a request slot by its place, a hold id, or a piece of the Settlement kind's work. -/
inductive Item where
  | slot (place : Nat)
  | hold (id : Nat)
  | alarm
  | latch (merchant : Nat)
  | step (merchant : Nat)
  deriving DecidableEq, Repr

/-- An entry of the Qualification List (R157). -/
structure Qual where
  merchant : Nat
  due : Nat
  deriving DecidableEq, Repr

/-- The live and latched flag of a device condition class (R150). -/
structure DevFlag where
  live : Bool
  latched : Bool
  deriving DecidableEq, Repr

/-- What a posting still does at its end with state that moves outside postings: a DEVICE clear judges SUPPLY_LOW (R160),
and a changed warning level or G is compared with the supply (R176). -/
inductive Finish where
  | plain
  | clearSupplyLow (cleared remaining : Nat)
  | supplyLevels
  deriving DecidableEq, Repr

/-- The change-set of a posting (R80): the records it works on, and everything else that becomes visible at its end. -/
structure Draft where
  records : Records
  qual : List Qual
  events : BitVec 8
  dirHigh : DevFlag
  holdsHigh : DevFlag
  now : Nat
  clearsAlarm : Bool
  finish : Finish
  deriving DecidableEq, Repr

/-- The posting in progress (R88): its requester kind, its slot or item and its now (none for a statement step, which
reads no clock). The change-set and the response judged at the grant, and whether the close alarm fired since the grant,
are the model's own (entry 8). -/
structure Posting where
  kind : Kind
  item : Item
  now : Option Nat
  change : Draft
  answer : Option Answer
  alarmFired : Bool
  deriving DecidableEq, Repr

/-- The states of the Supply Watch (R171). -/
inductive SupplyState where
  | normal | low | parked
  deriving DecidableEq, Repr

/-- A running guard timer: the moment it was started and the G it took (R171). -/
structure Guard where
  startedAt : Nat
  span : Nat
  deriving DecidableEq, Repr

/-- The state of the device. -/
structure State where
  records : Records
  clock : MallClock
  port : LinkPort
  lastKind : Kind
  posting : Option Posting
  expiryWaiting : Option Nat
  alarmPending : Bool
  qual : List Qual
  events : BitVec 8
  dirHigh : DevFlag
  holdsHigh : DevFlag
  supplyLow : DevFlag
  supply : Option SupplyState
  guard : Option Guard
  reading : SupplyReading
  vhold : Bool
  powered : Bool
  nResetLow : Bool
  nSelLow : Bool
  clockNeededHeld : Bool
  pending : List Instr
  deriving DecidableEq, Repr

/-- Why a step faults: never. The spec names no behaviour of the device that stops a step; safe. -/
inductive Fault where
  deriving DecidableEq, Repr

/-- Why a step is refused. -/
inductive Refusal where
  /-- A row of the table that has no meaning yet; raised by no arm of this model. Safe: the machine stops. -/
  | notModelled (mnemonic : String)
  deriving DecidableEq, Repr

/-- The default settings of a merchant (R101). -/
def defaultSettings : Settings :=
  { select := .a, partialAllowed := false, tolerance := 0, salesPermitted := false, refundsPermitted := false }

/-- An UNENROLLED merchant, as delivered and as a release leaves it (R101, R112). -/
def unenrolledMerchant : Merchant :=
  { state := .unenrolled, settings := defaultSettings, openHolds := 0, refundLatched := false, deficitLatched := false,
    refundsBlocked := false, salesBlocked := false, withdrawnIn := none }

/-- The service desk, merchant 0, as delivered (R101). -/
def deliveredDesk : Merchant :=
  { unenrolledMerchant with
    state := .enrolled
    settings := { select := .a, partialAllowed := true, tolerance := 0, salesPermitted := true, refundsPermitted := true } }

/-- A bank entry with every field zero or absent (R119, R125). -/
def zeroEntry : Entry :=
  { r := 0, f := 0, s := 0, k := 0, dIn := 0, postings := 0, captured := none, statement := none }

/-- A schedule with every field zero: what a staged schedule holds before it is staged (entry 14). -/
def zeroSchedule : Schedule :=
  { tiers := 0, t1 := 0, t2 := 0, t3 := 0, c1 := 0, c2 := 0, c3 := 0, c4 := 0, allowance := 0 }

/-- The schedules the open bank is delivered with: one tier at rate 0 and no allowance (R121). -/
def deliveredSchedule : Schedule := { zeroSchedule with tiers := 1 }

/-- A closing bank that is ABSENT: only its period number and state carry meaning (R117; entry 19). -/
def absentBank (period : Nat) : Bank :=
  { period := period, state := .absent, openedAt := 0, closedAt := none, openingOutstanding := 0,
    closedOutstanding := none, retiredInPeriod := 0, scheduleA := zeroSchedule, scheduleB := zeroSchedule,
    saturated := false, nextMerchant := none, entries := [] }

/-- The open bank of the delivered state (R117). -/
def deliveredBank : Bank :=
  { absentBank 0 with state := .opened, scheduleA := deliveredSchedule, scheduleB := deliveredSchedule }

/-- The limits of the delivered state (R26, R31, R58, R74, R75, R77, R127, R151, R156, R165, R170). -/
def deliveredLimits : Limits :=
  { value := { cap := 1000000, holdMin := 60, holdMax := 604800 }
    monitor := { ratio := 16384, refundFloor := 10000, qualTime := 900, deficitLimit := 500000, velocityLimit := 20,
                 velocityWindow := 3600, dirWatermark := 30000, holdWatermark := 3800 }
    device := { warning := .v295, guardTime := 20, alarmEnable := false, alarmTime := 0, enable := 0xFF#8,
                report := 0b111111#6, operate := 0b101000#6 } }

/-- The record array as the device leaves the factory. -/
def deliveredRecords : Records :=
  { directory := [], occupancy := 0, cards := [], holds := [], holdIdCounter := 1, merchants := [(0, deliveredDesk)],
    openBank := deliveredBank, closingBank := absentBank 7, stagedA := zeroSchedule, stagedB := zeroSchedule,
    stagedAValid := false, stagedBValid := false,
    totals := { outstanding := 0, retiredValue := 0, openPeriod := 0, closeDeferred := false, floor := 0 },
    limits := deliveredLimits }

/-- The Mall Clock at power-up (R13). -/
def clockAtPowerUp : MallClock := { state := .unset, value := 0, dividerRunning := false }

/-- The Link Port at power-up (R183); the numbering of places is the model's and goes on (entry 7). -/
def portAtPowerUp (nextPlace : Nat) : LinkPort :=
  { accepted := [], delivery := [], offered := none, lastRejected := false, lastNotTaken := false, frame := none,
    nextPlace := nextPlace }

/-- A device flag neither live nor latched. -/
def clearFlag : DevFlag := { live := false, latched := false }

/-- The raw event CLOCK_NEEDED, bit 5 (R190). -/
def clockNeededBit : BitVec 8 := 0x20#8

/-- The device right after the first power-up of a delivered device, at 3,300 mV, with nRESET and nSEL high (entry 4). -/
def State.reset : State :=
  { records := deliveredRecords, clock := clockAtPowerUp, port := portAtPowerUp 0, lastKind := .settlement,
    posting := none, expiryWaiting := none, alarmPending := false, qual := [], events := clockNeededBit,
    dirHigh := clearFlag, holdsHigh := clearFlag, supplyLow := clearFlag, supply := some .normal, guard := none,
    reading := { vdd := 3300, ms := 0 }, vhold := true, powered := true, nResetLow := false, nSelLow := false,
    clockNeededHeld := false, pending := [] }

end Sys2Proof.Machine
end

