-- ==== Sys2Proof/Machine/Ops.lean ====
section
/-! DEFINITION. The named operations over the records: sparse tables, saturating sums, the directory, the Hold Table and
the position banks, and what they become inside a posting's change-set. -/

namespace Sys2Proof.Machine

/-! Sparse tables (entry 32) -/

/-- The record listed under a number. -/
def tableFind {α : Type} (t : Table α) (k : Nat) : Option α :=
  match t with
  | [] => none
  | e :: rest => if e.1 = k then some e.2 else tableFind rest k

/-- The table without a number. -/
def tableErase {α : Type} (t : Table α) (k : Nat) : Table α := t.filter (fun e => decide (e.1 ≠ k))

/-- The table with a record under a number, in rising order. -/
def tableInsert {α : Type} (t : Table α) (k : Nat) (v : α) : Table α :=
  match t with
  | [] => [(k, v)]
  | e :: rest =>
      if k < e.1 then (k, v) :: e :: rest
      else if e.1 = k then (k, v) :: rest
      else e :: tableInsert rest k v

/-- What a number reads as: its record, or the default where it is not listed. -/
def tableGet {α : Type} (dflt : α) (t : Table α) (k : Nat) : α := (tableFind t k).getD dflt

/-- The table after a record is written; writing the default unlists the number. -/
def tablePut {α : Type} [DecidableEq α] (dflt : α) (t : Table α) (k : Nat) (v : α) : Table α :=
  if v = dflt then tableErase t k else tableInsert t k v

/-! Exact sums with bounds -/

/-- A position amount held within its range (R2). -/
def satPos (x : Int) : Int := max (-Config.posMax) (min Config.posMax x)

/-- Whether an exact result leaves the range of a position amount (R2). -/
def overflows (x : Int) : Bool := decide (satPos x ≠ x)

/-- A time plus a duration, saturating (R7). -/
def addTime (t span : Nat) : Nat := min (t + span) Config.maxTime

/-- A postings count raised by 1, saturating (R3). -/
def bumpCount (n : Nat) : Nat := min (n + 1) 4294967295

/-! The Card Directory -/

/-- The home slot of a serial (R15). -/
def homeSlot (serial : Nat) : Nat := serial % Config.nSlots

/-- The slot after a slot in probe order (R15). -/
def nextSlot (j : Nat) : Nat := (j + 1) % Config.nSlots

/-- The slot before a slot in probe order (R23). -/
def prevSlot (j : Nat) : Nat := (j + (Config.nSlots - 1)) % Config.nSlots

/-- The state of a directory slot (R14); an unlisted slot is EMPTY. -/
def slotState (dir : Table DirSlot) (j : Nat) : DirSlot := tableGet .empty dir j

/-- What a lookup hands back: the slot that holds the serial, and the first EMPTY or VACATED slot seen (R16). -/
structure Found where
  slot : Option Nat
  free : Option Nat
  deriving DecidableEq, Repr

/-- The walk of a lookup over the next `n` slots from slot `j` (R16). -/
def walk (dir : Table DirSlot) (serial : Nat) : Nat → Nat → Option Nat → Found
  | 0, _, free => { slot := none, free := free }
  | n + 1, j, free =>
      match slotState dir j with
      | .used s => if s = serial then { slot := some j, free := free } else walk dir serial n (nextSlot j) free
      | .vacated => walk dir serial n (nextSlot j) (free <|> some j)
      | .empty => { slot := none, free := free <|> some j }

/-- The lookup of a serial over its probe window (R16). -/
def lookup (dir : Table DirSlot) (serial : Nat) : Found := walk dir serial Config.window (homeSlot serial) none

/-- The unbroken run of VACATED slots that ends at slot `j`, stepping back, becomes EMPTY (R23). Every step unlists a
slot, so the number of listed slots bounds the steps. -/
def emptyRunBack : Nat → Table DirSlot → Nat → Table DirSlot
  | 0, dir, _ => dir
  | n + 1, dir, j =>
      match slotState dir j with
      | .vacated => emptyRunBack n (tableErase dir j) (prevSlot j)
      | .used _ => dir
      | .empty => dir

/-- A slot vacated, with the cleanup of the run behind it when the slot after it is EMPTY (R22, R23). -/
def vacate (dir : Table DirSlot) (j : Nat) : Table DirSlot :=
  let dir := tablePut .empty dir j .vacated
  match slotState dir (nextSlot j) with
  | .empty => emptyRunBack dir.length dir j
  | .used _ => dir
  | .vacated => dir

/-! The Hold Table -/

/-- Whether a hold stands before another in deadline order (R52). -/
def holdBefore (a b : Hold) : Bool := decide (a.deadline < b.deadline ∨ (a.deadline = b.deadline ∧ a.id < b.id))

/-- The Hold Table with an entry added in its place (R52, R59). -/
def insertHold (h : Hold) : List Hold → List Hold
  | [] => [h]
  | g :: rest => if holdBefore h g then h :: g :: rest else g :: insertHold h rest

/-- The entry standing under a hold id (R60). -/
def findHold (holds : List Hold) (id : Nat) : Option Hold := holds.find? (fun h => decide (h.id = id))

/-- The Hold Table without a hold id (R66). -/
def eraseHold (holds : List Hold) (id : Nat) : List Hold := holds.filter (fun h => decide (h.id ≠ id))

/-- The id after an id, in the order the counter advances (R54). -/
def nextHoldId (id : Nat) : Nat := if id = 65535 then 1 else id + 1

/-- The first id from `id` on, in at most `n` steps, that no entry carries (R54). -/
def freeHoldId (holds : List Hold) : Nat → Nat → Nat
  | 0, id => id
  | n + 1, id => if (findHold holds id).isSome then freeHoldId holds n (nextHoldId id) else id

/-- The id the next hold takes (R54). -/
def allocateHoldId (holds : List Hold) (counter : Nat) : Nat := freeHoldId holds holds.length counter

/-- The completion limit of a hold (R5, R62). -/
def completionLimit (h : Hold) : Nat := h.amount + h.amount * h.tolerance / 10000

/-- The lifetime asked for, clamped to the hold limits (R58). -/
def clampLifetime (l : ValueLimits) (life : Nat) : Nat :=
  if life < l.holdMin then l.holdMin else if l.holdMax < life then l.holdMax else life

/-! Records read by number -/

/-- The merchant record of a number (R99). -/
def merchantOf (r : Records) (m : Nat) : Merchant := tableGet unenrolledMerchant r.merchants m

/-- A merchant's entry in the open bank (R116). -/
def openEntry (r : Records) (m : Nat) : Entry := tableGet zeroEntry r.openBank.entries m

/-- A merchant's entry in the closing bank (R116). -/
def closingEntry (r : Records) (m : Nat) : Entry := tableGet zeroEntry r.closingBank.entries m

/-- The card a serial names: its slot and its record (R17). -/
def cardOf (r : Records) (serial : Nat) : Option (Nat × Card) :=
  match (lookup r.directory serial).slot with
  | none => none
  | some j => (tableFind r.cards j).map (fun c => (j, c))

/-- A schedule of a bank by its select (R138). -/
def bankSchedule (b : Bank) : Select → Schedule
  | .a => b.scheduleA
  | .b => b.scheduleB

/-- The accumulators of an entry that value postings raise (R116). -/
inductive Accum where
  | r | f | s | k
  deriving DecidableEq, Repr

/-- The figure of an accumulator. -/
def accumGet (e : Entry) : Accum → Int
  | .r => e.r
  | .f => e.f
  | .s => e.s
  | .k => e.k

/-- An entry with a figure in an accumulator. -/
def accumSet (e : Entry) (x : Int) : Accum → Entry
  | .r => { e with r := x }
  | .f => { e with f := x }
  | .s => { e with s := x }
  | .k => { e with k := x }

/-- An entry with an accumulator raised by an amount, saturating, and its postings count raised by 1 (R2, R3, R119). -/
def raiseEntry (e : Entry) (a : Accum) (x : Int) : Entry :=
  { accumSet e (satPos (accumGet e a + x)) a with postings := bumpCount e.postings }

/-! The change-set of a posting -/

/-- The change-set with its records changed. -/
def Draft.mapRecords (d : Draft) (f : Records → Records) : Draft := { d with records := f d.records }

/-- The posting writes its now into the floor (R9). -/
def Draft.commit (d : Draft) : Draft :=
  d.mapRecords (fun r => { r with totals := { r.totals with floor := d.now } })

/-- The card record of a slot written. -/
def Draft.putCard (d : Draft) (slot : Nat) (c : Card) : Draft :=
  d.mapRecords (fun r => { r with cards := tableInsert r.cards slot c })

/-- The merchant record of a number written. -/
def Draft.putMerchant (d : Draft) (m : Nat) (x : Merchant) : Draft :=
  d.mapRecords (fun r => { r with merchants := tablePut unenrolledMerchant r.merchants m x })

/-- A merchant's entry in the open bank written. -/
def Draft.putEntry (d : Draft) (m : Nat) (e : Entry) : Draft :=
  d.mapRecords (fun r =>
    { r with openBank := { r.openBank with entries := tablePut zeroEntry r.openBank.entries m e } })

/-- The open bank's SATURATED flag set when a quantity saturated (R2). -/
def Draft.markSaturated (d : Draft) (hit : Bool) : Draft :=
  d.mapRecords (fun r => { r with openBank := { r.openBank with saturated := r.openBank.saturated || hit } })

/-- A value posting into the open bank: an accumulator of a merchant raised (R50, R119). -/
def Draft.post (d : Draft) (m : Nat) (a : Accum) (x : Nat) : Draft :=
  let e := openEntry d.records m
  (d.putEntry m (raiseEntry e a x)).markSaturated (overflows (accumGet e a + x))

/-- The Totals outstanding moved by an amount, saturating (R2, R96). -/
def Draft.addOutstanding (d : Draft) (x : Int) : Draft :=
  let exact := d.records.totals.outstanding + x
  (d.mapRecords (fun r => { r with totals := { r.totals with outstanding := satPos exact } })).markSaturated
    (overflows exact)

/-- The Totals retired value and the open bank's retired in period raised by an amount, each saturating (R41, R97). -/
def Draft.addRetired (d : Draft) (x : Int) : Draft :=
  let total := d.records.totals.retiredValue + x
  let period := d.records.openBank.retiredInPeriod + x
  (d.mapRecords (fun r =>
    { r with
      totals := { r.totals with retiredValue := satPos total }
      openBank := { r.openBank with retiredInPeriod := satPos period } })).markSaturated
    (overflows total || overflows period)

/-- A serial placed in a slot with its card record; the occupancy count rises by 1 (R19). -/
def Draft.placeCard (d : Draft) (slot : Nat) (c : Card) : Draft :=
  d.mapRecords (fun r =>
    { r with
      directory := tablePut .empty r.directory slot (.used c.serial)
      occupancy := r.occupancy + 1
      cards := tableInsert r.cards slot c })

/-- A card's slot vacated and cleaned up, its record removed; the occupancy count falls by 1 (R22, R23). -/
def Draft.purgeCard (d : Draft) (slot : Nat) : Draft :=
  d.mapRecords (fun r =>
    { r with
      directory := vacate r.directory slot
      occupancy := r.occupancy - 1
      cards := tableErase r.cards slot })

end Sys2Proof.Machine
end

