-- ==== Sys2Proof/Machine/Operands.lean ====
section
/-! DEFINITION. The fields of responses and their encodings (R181, R190 to R193). A response body is a list of bytes from
byte 4 of the frame on; a byte the spec states no value for is `none` (entry 13). -/

namespace Sys2Proof.Machine

/-- The fields of a response, packed in order (R191). -/
abbrev Body := List (Option Byte)

/-- A field of `w` bytes (R181). -/
def field (w n : Nat) : Body := (beBytes w n).map some

/-- `n` bytes the spec states no value for. -/
def openBytes (n : Nat) : Body := List.replicate n none

/-- A position amount in six bytes of two's complement (R2). -/
def posField (x : Int) : Body := field 6 (x % 281474976710656).toNat

/-- A yes-or-no field (R190). -/
def flagField (b : Bool) : Body := field 1 (yesNoCode b)

/-- An optional time: whether it is present, then its value, which has no stated value when absent (entry 13). -/
def optTimeField : Option Nat → Body
  | none => flagField false ++ openBytes 4
  | some t => flagField true ++ field 4 t

/-- Card state (R190). -/
def cardStateCode : CardState → Nat
  | .active => 0
  | .locked => 1
  | .closing => 2
  | .retired => 3

/-- Lock causes: bit 0 HOST, bit 1 VELOCITY (R190). -/
def lockCode (l : LockCauses) : Nat := l.host.toNat + 2 * l.velocity.toNat

/-- Retire reason, 0 absent (R190). -/
def optReasonCode : Option RetireReason → Nat
  | none => 0
  | some r => reasonCode r

/-- Merchant state (R190). -/
def merchantStateCode : MerchantState → Nat
  | .unenrolled => 0
  | .enrolled => 1
  | .suspended => 2
  | .withdrawn => 3

/-- Merchant flags (R190). -/
def merchantFlags (m : Merchant) : Nat :=
  m.settings.partialAllowed.toNat + 2 * m.settings.salesPermitted.toNat + 4 * m.settings.refundsPermitted.toNat +
  8 * m.refundLatched.toNat + 16 * m.deficitLatched.toNat + 32 * m.refundsBlocked.toNat + 64 * m.salesBlocked.toNat

/-- Withdrawn-in-period, FFh absent (R190). -/
def withdrawnCode : Option Nat → Nat
  | none => 255
  | some q => q

/-- Bank state (R190). -/
def bankStateCode : BankState → Nat
  | .absent => 0
  | .opened => 1
  | .computing => 2
  | .ready => 3

/-- Clock state (R190). -/
def clockStateCode : ClockState → Nat
  | .unset => 0
  | .set => 1

/-- Card concerned of CARD_TRANSFER (R190). -/
inductive Concerned where
  | source | target
  deriving DecidableEq, Repr

/-- The encoding of card concerned (R190). -/
def concernedCode : Concerned → Nat
  | .source => 0
  | .target => 1

/-- The value of a result code (R190). -/
def resultCode : Result → Nat
  | .none => 0x00
  | .ok => 0x01
  | .partialApproval => 0x02
  | .deferred => 0x03
  | .unknownRequest => 0x10
  | .badParameter => 0x11
  | .badAmount => 0x12
  | .noCard => 0x20
  | .cardExists => 0x21
  | .directoryFull => 0x22
  | .cardLocked => 0x23
  | .cardClosing => 0x24
  | .cardRetired => 0x25
  | .cardExpired => 0x26
  | .notRetired => 0x27
  | .insufficient => 0x30
  | .capExceeded => 0x31
  | .holdsFull => 0x32
  | .cardHoldsFull => 0x33
  | .noHold => 0x34
  | .holdExpired => 0x35
  | .overTolerance => 0x36
  | .wrongMerchant => 0x37
  | .notEnrolled => 0x40
  | .alreadyEnrolled => 0x41
  | .merchantSuspended => 0x42
  | .notPermitted => 0x43
  | .salesBlocked => 0x44
  | .refundsBlocked => 0x45
  | .holdsOpen => 0x46
  | .statementPending => 0x50
  | .notReady => 0x51
  | .wrongPeriod => 0x52
  | .noStatement => 0x53
  | .scheduleInvalid => 0x54
  | .clockUnset => 0x60
  | .clockBehind => 0x61
  | .parked => 0x62

/-- An answer that carries its fields. -/
def answer (r : Result) (body : Body) : Answer := { result := r, body := body }

/-- A refusal with no field named for it: every result byte 0 (R191). -/
def refuse (r : Result) : Answer := { result := r, body := [] }

/-- A refusal of a merchant request: it carries the merchant number, as R115 asks of every response of these requests.
R191 names the fields of refusals and does not name it; the model follows R115 (DEDUCED, entry 12). -/
def refuseMerchant (m : Nat) (r : Result) : Answer := answer r (field 2 m)

/-- A refusal of CARD_TRANSFER inside its posting, with the card concerned (R43). -/
def refuseTransfer (c : Concerned) (r : Result) : Answer := answer r (field 1 (concernedCode c))

/-- A refusal of a slot outside any posting (R83, R92, R93): CARD_TRANSFER carries a card concerned whose value is not
stated (R51; entry 33), a merchant request its merchant number (R115; entry 12). -/
def refuseSlot (q : Slot) (r : Result) : Answer :=
  if q.code = 0x16#8 then answer r (openBytes 1)
  else if 0x30 ≤ q.code.toNat ∧ q.code.toNat ≤ 0x35 then refuseMerchant (param q.params 2 2) r
  else refuse r

/-- The fields of a schedule (R192). -/
def scheduleField (s : Schedule) : Body := (scheduleBytes s).map some

/-- Page 0 of MERCHANT_INQUIRE, also the response of MERCHANT_ENROL and MERCHANT_UPDATE (R192). -/
def merchantPage0 (r : Records) (m : Nat) : Body :=
  let x := merchantOf r m
  let e := openEntry r m
  field 2 m ++ field 1 (merchantStateCode x.state) ++ field 1 (merchantFlags x) ++
  field 1 (selectCode x.settings.select) ++ field 2 x.settings.tolerance ++ field 2 x.openHolds ++
  field 1 (withdrawnCode x.withdrawnIn) ++ field 1 r.totals.openPeriod ++ posField e.dIn ++ field 4 e.postings

/-- A limits group with its selector, as it stands (R192, R193). -/
def limitsBody (l : Limits) (g : LimitsGroup) : Body :=
  field 1 (groupCode g) ++
    match g with
    | .value => (valueBytes l.value).map some
    | .monitor => (monitorBytes l.monitor).map some
    | .device => (deviceBytes l.device).map some

end Sys2Proof.Machine
end

