-- ==== Sys2Proof/Machine/Flags.lean ====
section
/-! DEFINITION. Events, conditions and the attention line (chapter 9): the live tests, latching with report and operate,
the Qualification List, and nATTN. -/

namespace Sys2Proof.Machine

/-- The raw events (R164). -/
inductive Event where
  | parkChanged | holdExpired | closeDone | statementsReady | closeDeferred | clockNeeded | conditionLatched | supplyLow
  deriving DecidableEq, Repr

/-- The bit of an event in an event set (R190). -/
def eventBit : Event → BitVec 8
  | .parkChanged => 0x01#8
  | .holdExpired => 0x02#8
  | .closeDone => 0x04#8
  | .statementsReady => 0x08#8
  | .closeDeferred => 0x10#8
  | .clockNeeded => 0x20#8
  | .conditionLatched => 0x40#8
  | .supplyLow => 0x80#8

/-- The condition classes (R150). -/
inductive CondClass where
  | supplyLow | holdsHigh | directoryHigh | velocity | deficit | refundRatio
  deriving DecidableEq, Repr

/-- The bit number of a class in a class set (R190). -/
def classBit : CondClass → Nat
  | .supplyLow => 0
  | .holdsHigh => 1
  | .directoryHigh => 2
  | .velocity => 3
  | .deficit => 4
  | .refundRatio => 5

/-- Whether a class is in a class set (R156). -/
def inSet (set : BitVec 6) (c : CondClass) : Bool := set.getLsbD (classBit c)

/-! Live tests (R150) -/

/-- REFUND_RATIO is live on an entry: an exact comparison of products (R4, R150). -/
def refundLive (l : MonitorLimits) (e : Entry) : Bool :=
  decide ((l.refundFloor : Int) ≤ e.f) && decide (e.r * l.ratio < e.f * 65536)

/-- DEFICIT is live on an entry: formed with no saturation (R150). -/
def deficitLive (l : MonitorLimits) (e : Entry) : Bool :=
  decide (e.r - e.f - e.s + e.k - e.dIn < -(l.deficitLimit : Int))

/-- VELOCITY is live on a card at a now (R75, R150). -/
def velocityLive (l : MonitorLimits) (now : Nat) (c : Card) : Bool :=
  decide (l.velocityLimit < c.velocityCount) && decide (now - c.windowStart < l.velocityWindow)

/-! Latching inside a posting (R155) -/

/-- The posting sets a raw event at its end (R164). -/
def Draft.raise (d : Draft) (e : Event) : Draft := { d with events := d.events ||| eventBit e }

/-- REFUND_RATIO latches on a merchant; with operate on, refunds are blocked (R155). -/
def Draft.latchRefund (d : Draft) (m : Nat) : Draft :=
  let x := merchantOf d.records m
  (d.putMerchant m
    { x with
      refundLatched := true
      refundsBlocked := x.refundsBlocked || inSet d.records.limits.device.operate .refundRatio }).raise .conditionLatched

/-- DEFICIT latches on a merchant; with operate on, sales are blocked (R155). -/
def Draft.latchDeficit (d : Draft) (m : Nat) : Draft :=
  let x := merchantOf d.records m
  (d.putMerchant m
    { x with
      deficitLatched := true
      salesBlocked := x.salesBlocked || inSet d.records.limits.device.operate .deficit }).raise .conditionLatched

/-- DEFICIT of a merchant evaluated on its open entry (R152). -/
def Draft.evalDeficit (d : Draft) (m : Nat) : Draft :=
  if deficitLive d.records.limits.monitor (openEntry d.records m) && !(merchantOf d.records m).deficitLatched then
    d.latchDeficit m
  else d

/-- Whether an entry of the Qualification List stands before another (R157). -/
def qualBefore (a b : Qual) : Bool := decide (a.due < b.due ∨ (a.due = b.due ∧ a.merchant < b.merchant))

/-- The Qualification List with an entry added in its place (R157). -/
def insertQual (q : Qual) : List Qual → List Qual
  | [] => [q]
  | p :: rest => if qualBefore q p then q :: p :: rest else p :: insertQual q rest

/-- The Qualification List without a merchant (R152). -/
def eraseQual (l : List Qual) (m : Nat) : List Qual := l.filter (fun q => decide (q.merchant ≠ m))

/-- Whether a merchant is pending (R152). -/
def isPending (l : List Qual) (m : Nat) : Bool := l.any (fun q => decide (q.merchant = m))

/-- REFUND_RATIO of a merchant evaluated on its open entry: the table of R152. -/
def Draft.evalRefund (d : Draft) (m : Nat) : Draft :=
  if refundLive d.records.limits.monitor (openEntry d.records m) then
    if (merchantOf d.records m).refundLatched then d
    else if isPending d.qual m then d
    else if d.records.limits.monitor.qualTime = 0 then d.latchRefund m
    else { d with qual := insertQual { merchant := m, due := addTime d.now d.records.limits.monitor.qualTime } d.qual }
  else { d with qual := eraseQual d.qual m }

/-- The merchant conditions of a merchant whose open entry the posting changed (R152; entry 21). -/
def Draft.evalMerchant (d : Draft) (m : Nat) : Draft := (d.evalDeficit m).evalRefund m

/-- A device flag after an evaluation: the live flag takes the result and a live class latches (R154). -/
def evalFlag (f : DevFlag) (live : Bool) : DevFlag := { live := live, latched := f.latched || live }

/-- Whether an evaluation latches a device class (R154, R155). -/
def newlyLatched (f : DevFlag) (live : Bool) : Bool := live && !f.latched

/-- CONDITION_LATCHED when a device class latches (R155). -/
def latchBit (f : DevFlag) (live : Bool) : BitVec 8 :=
  if newlyLatched f live then eventBit .conditionLatched else 0#8

/-- DIRECTORY_HIGH holds for the occupancy count (R26). -/
def dirHighTest (r : Records) : Bool := decide (r.limits.monitor.dirWatermark ≤ r.occupancy)

/-- HOLDS_HIGH holds for the number of entries (R77). -/
def holdsHighTest (r : Records) : Bool := decide (r.limits.monitor.holdWatermark ≤ r.holds.length)

/-- DIRECTORY_HIGH evaluated inside a posting (R154). -/
def Draft.evalDirHigh (d : Draft) : Draft :=
  { d with
    dirHigh := evalFlag d.dirHigh (dirHighTest d.records)
    events := d.events ||| latchBit d.dirHigh (dirHighTest d.records) }

/-- HOLDS_HIGH evaluated inside a posting (R154). -/
def Draft.evalHoldsHigh (d : Draft) : Draft :=
  { d with
    holdsHigh := evalFlag d.holdsHigh (holdsHighTest d.records)
    events := d.events ||| latchBit d.holdsHigh (holdsHighTest d.records) }

/-! Velocity (R74, R75) -/

/-- An approved spend counted on a card (R74). -/
def countSpend (l : MonitorLimits) (now : Nat) (c : Card) : Card :=
  if l.velocityWindow ≤ now - c.windowStart then { c with windowStart := now, velocityCount := 1 }
  else { c with velocityCount := min (c.velocityCount + 1) 255 }

/-- Whether an approved spend latches the card's VELOCITY (R75). -/
def velocityLatches (l : MonitorLimits) (now : Nat) (c : Card) : Bool := velocityLive l now c && !c.velocityLatched

/-- A card on which VELOCITY latches; with operate on it gains the VELOCITY cause and an ACTIVE card becomes LOCKED (R38,
R155). -/
def latchVelocity (operate : Bool) (c : Card) : Card :=
  if operate then
    { c with
      velocityLatched := true
      locks := { c.locks with velocity := true }
      state := match c.state with
        | .active => .locked
        | .locked => .locked
        | .closing => .closing
        | .retired => .retired }
  else { c with velocityLatched := true }

/-- A card after an approved spend: counted, then VELOCITY evaluated (R74, R75). -/
def spendCard (l : Limits) (now : Nat) (c : Card) : Card :=
  let c := countSpend l.monitor now c
  if velocityLatches l.monitor now c then latchVelocity (inSet l.device.operate .velocity) c else c

/-- CONDITION_LATCHED when an approved spend latches VELOCITY (R75). -/
def spendBit (l : Limits) (now : Nat) (c : Card) : BitVec 8 :=
  if velocityLatches l.monitor now (countSpend l.monitor now c) then eventBit .conditionLatched else 0#8

/-! The event set and the attention line -/

/-- A raw event set outside a posting (R164). -/
def State.raise (s : State) (e : Event) : State := { s with events := s.events ||| eventBit e }

/-- The pending set: raw flags that are enabled (R166). -/
def pendingSet (s : State) : BitVec 8 := s.events &&& s.records.limits.device.enable

/-- The first pending cause as its single bit, 00h when none (R166, R190). The order is that of the bits from 7 down. -/
def firstCause (p : BitVec 8) : BitVec 8 :=
  if p.getLsbD 7 then 0x80#8
  else if p.getLsbD 6 then 0x40#8
  else if p.getLsbD 5 then 0x20#8
  else if p.getLsbD 4 then 0x10#8
  else if p.getLsbD 3 then 0x08#8
  else if p.getLsbD 2 then 0x04#8
  else if p.getLsbD 1 then 0x02#8
  else if p.getLsbD 0 then 0x01#8
  else 0x00#8

/-- Some condition is latched whose class has report on (R168). -/
def latchedReported (s : State) : Bool :=
  let report := s.records.limits.device.report
  s.records.merchants.any (fun e =>
    (e.2.refundLatched && inSet report .refundRatio) || (e.2.deficitLatched && inSet report .deficit)) ||
  s.records.cards.any (fun e => e.2.velocityLatched && inSet report .velocity) ||
  (s.dirHigh.latched && inSet report .directoryHigh) ||
  (s.holdsHigh.latched && inSet report .holdsHigh) ||
  (s.supplyLow.latched && inSet report .supplyLow)

/-- nATTN is low (R168); its level while the device is stopped is open (entry 31). -/
def nattnLow (s : State) : Bool :=
  if s.powered then decide (pendingSet s ≠ 0#8) || latchedReported s else Config.attnWhenStopped

/-- The device conditions field of EVENTS_READ (R190). -/
def deviceConditions (s : State) : Nat :=
  32 * s.dirHigh.live.toNat + 16 * s.dirHigh.latched.toNat + 8 * s.holdsHigh.live.toNat +
  4 * s.holdsHigh.latched.toNat + 2 * s.supplyLow.live.toNat + s.supplyLow.latched.toNat

/-- DIRECTORY_HIGH and HOLDS_HIGH evaluated outside a posting, at power-up and at the release of nRESET (R169). -/
def evalTables (s : State) : State :=
  { s with
    dirHigh := evalFlag s.dirHigh (dirHighTest s.records)
    holdsHigh := evalFlag s.holdsHigh (holdsHighTest s.records)
    events := s.events ||| latchBit s.dirHigh (dirHighTest s.records) |||
      latchBit s.holdsHigh (holdsHighTest s.records) }

/-- SUPPLY_LOW evaluated at a change of the supply state (R154). -/
def evalSupplyLow (s : State) (live : Bool) : State :=
  { s with supplyLow := evalFlag s.supplyLow live, events := s.events ||| latchBit s.supplyLow live }

end Sys2Proof.Machine
end

