-- ==== Sys2Proof/Machine/Clock.lean ====
section
/-! DEFINITION. The Mall Clock (R8 to R13), what an advance hands to the close alarm (R128) and the Expiry Unit's test
(R68). -/

namespace Sys2Proof.Machine

/-- The device runs: it is powered and nRESET is high (R177, R189). -/
def running (s : State) : Bool := s.powered && !s.nResetLow

/-- How many seconds from 0 to `t` have the time of day `a`, for `a` below 86,400. -/
def alarmsUpTo (a t : Nat) : Nat := (t + 86400 - a) / 86400

/-- Some second `k` with `t < k ≤ t'` has the time of day of the alarm (R128). -/
def passesAlarm (a t t' : Nat) : Bool := decide (alarmsUpTo a t < alarmsUpTo a t')

/-- The close alarm fires: alarm-pending is set, and a posting in flight is told, so that a cutover it makes does not
clear this firing (R125, R128). -/
def fireAlarm (s : State) : State :=
  { s with alarmPending := true, posting := s.posting.map (fun p => { p with alarmFired := true }) }

/-- The Settlement Unit's test at an advance from `t` to `t'` (R128). -/
def alarmTest (s : State) (t t' : Nat) : State :=
  if s.records.limits.device.alarmEnable && passesAlarm s.records.limits.device.alarmTime t t' then fireAlarm s else s

/-- The Expiry Unit's test: with the clock SET, no waiting request and a due head, the head's id becomes the waiting
request (R68). While nRESET is low it makes none. -/
def expiryTest (s : State) : State :=
  if running s && decide (s.clock.state = .set) && s.expiryWaiting.isNone then
    match s.records.holds.head? with
    | none => s
    | some h => if h.deadline ≤ s.clock.value then { s with expiryWaiting := some h.id } else s
  else s

/-- The clock's value changed to `v`. -/
def setValue (s : State) (v : Nat) : State := { s with clock := { s.clock with value := v } }

/-- A clock advance to `v`, handed to the Settlement Unit and the Expiry Unit (R12). The Condition Monitor's test of the
Qualification List reads the value itself (`latchDue`). -/
def advance (s : State) (v : Nat) : State := expiryTest (alarmTest (setValue s v) s.clock.value v)

/-- A taken set of the clock (R10): SET, the divider restarted. From SET to a later value it is an advance; from UNSET it
is not. -/
def takeSet (s : State) (v : Nat) : State :=
  match s.clock.state with
  | .unset => expiryTest { s with clock := { state := .set, value := v, dividerRunning := true } }
  | .set =>
      let s1 := { s with clock := { s.clock with dividerRunning := true } }
      if v = s.clock.value then s1 else advance s1 v

/-- Whether a CLOCK_SET to `v` is behind the floor or behind a clock that is SET (R10). -/
def isBehind (s : State) (v : Nat) : Bool :=
  decide (v < s.records.totals.floor) || (decide (s.clock.state = .set) && decide (v < s.clock.value))

/-- Clock state, value and floor (R192). -/
def clockBody (s : State) : Body :=
  field 1 (clockStateCode s.clock.state) ++ field 4 s.clock.value ++ field 4 s.records.totals.floor

/-- The head of the Qualification List when it is due (R158). -/
def latchDue (s : State) : Option Qual :=
  match s.qual.head? with
  | none => none
  | some q => if s.clock.state = .set ∧ q.due ≤ s.clock.value then some q else none

end Sys2Proof.Machine
end

