-- ==== Sys2Proof/Machine/Cards.lean ====
section
/-! DEFINITION. Card Accounts (chapter 3): the judgement and changes of the postings that create, lock, retire, transfer and
purge cards. A posting's body takes the change-set at the grant to the change-set at the end and the answer; a refusal
hands the change-set back as it was (R51, R82). -/

namespace Sys2Proof.Machine

/-- The result of judging a posting: its change-set and its answer. -/
abbrev Judged := Draft × Answer

/-- A card state that refuses a value request (3.1). -/
def stateRefusal : CardState → Option Result
  | .active => none
  | .locked => some .cardLocked
  | .closing => some .cardClosing
  | .retired => some .cardRetired

/-- A card state that refuses a lock, an unlock, a retirement or a transfer from the card (3.1). -/
def lifeRefusal : CardState → Option Result
  | .active => none
  | .locked => none
  | .closing => some .cardClosing
  | .retired => some .cardRetired

/-- Whether a card is expired at a now (R32). -/
def isExpired (now : Nat) (c : Card) : Bool :=
  match c.validUntil with
  | none => false
  | some v => decide (v ≤ now)

/-- The card checks of a value request: found, ACTIVE, not expired (R35, R55, R72). -/
def usableCard (d : Draft) (serial : Nat) : Except Result (Nat × Card) :=
  match cardOf d.records serial with
  | none => .error .noCard
  | some (j, c) =>
      match stateRefusal c.state with
      | some r => .error r
      | none => if isExpired d.now c then .error .cardExpired else .ok (j, c)

/-- Merchant checks 1 and 2 (R103). -/
def tradingRefusal (x : Merchant) : Option Result :=
  match x.state with
  | .unenrolled => some .notEnrolled
  | .withdrawn => some .notEnrolled
  | .suspended => some .merchantSuspended
  | .enrolled => none

/-- The merchant checks of CARD_ISSUE and CARD_RELOAD (R33, R103). -/
def salesRefusal (x : Merchant) : Option Result :=
  match tradingRefusal x with
  | some r => some r
  | none =>
      if !x.settings.salesPermitted then some .notPermitted
      else if x.salesBlocked then some .salesBlocked
      else none

/-- The merchant checks of REFUND (R72, R103). -/
def refundRefusal (x : Merchant) : Option Result :=
  match tradingRefusal x with
  | some r => some r
  | none =>
      if !x.settings.refundsPermitted then some .notPermitted
      else if x.refundsBlocked then some .refundsBlocked
      else none

/-- A credit of `x` exceeds the card cap (R31). -/
def overCap (l : Limits) (carried x : Nat) : Bool := decide (l.value.cap < carried + x)

/-- The card record an issue writes (R34). -/
def issuedCard (serial merchant amount validity now : Nat) : Card :=
  { serial := serial, state := .active, locks := { host := false, velocity := false }, available := amount, held := 0,
    openHolds := 0, issuer := merchant, issuedAt := now, lastPostingAt := now,
    validUntil := if validity = 0 then none else some (addTime now validity),
    windowStart := now, velocityCount := 0, velocityLatched := false, retireReason := none, retiredAt := none }

/-- The changes of an approved issue (R34). -/
def issueChanges (d : Draft) (slot : Nat) (c : Card) (merchant amount : Nat) : Draft :=
  ((((d.placeCard slot c).post merchant .s amount).addOutstanding amount).evalMerchant merchant).evalDirHigh.commit

/-- CARD_ISSUE inside its posting (R33, R34). Its response carries the slot index, as R34 and R191 say, though R25 has the
host see a slot only through the responses R21 lists (DEDUCED, entry 35). -/
def postCardIssue (serial merchant amount validity : Nat) (d : Draft) : Judged :=
  match salesRefusal (merchantOf d.records merchant) with
  | some r => (d, refuse r)
  | none =>
      if overCap d.records.limits 0 amount then (d, refuse .capExceeded)
      else
        let found := lookup d.records.directory serial
        match found.slot with
        | some _ => (d, refuse .cardExists)
        | none =>
            match found.free with
            | none => (d, refuse .directoryFull)
            | some j =>
                let c := issuedCard serial merchant amount validity d.now
                (issueChanges d j c merchant amount,
                  answer .ok (field 2 j ++ field 4 amount ++ optTimeField c.validUntil))

/-- The changes of an approved credit to a card by a merchant: available rises, an accumulator and outstanding rise by the
same amount (R35, R73). -/
def creditChanges (d : Draft) (slot : Nat) (c : Card) (merchant : Nat) (a : Accum) (amount : Nat) : Draft :=
  (((((d.putCard slot { c with available := c.available + amount, lastPostingAt := d.now }).post merchant a
    amount).addOutstanding amount).evalMerchant merchant)).commit

/-- CARD_RELOAD inside its posting (R35). -/
def postCardReload (serial merchant amount : Nat) (d : Draft) : Judged :=
  match usableCard d serial with
  | .error r => (d, refuse r)
  | .ok (j, c) =>
      match salesRefusal (merchantOf d.records merchant) with
      | some r => (d, refuse r)
      | none =>
          if overCap d.records.limits (c.available + c.held) amount then (d, refuse .capExceeded)
          else
            (creditChanges d j c merchant .s amount, answer .ok (field 4 (c.available + amount) ++ field 4 c.held))

/-- State and lock causes, the fields of CARD_LOCK and CARD_UNLOCK (R192). -/
def lockBody (c : Card) : Body := field 1 (cardStateCode c.state) ++ field 1 (lockCode c.locks)

/-- A card with HOST among its lock causes (R36). -/
def hostLocked (now : Nat) (c : Card) : Card :=
  { c with state := .locked, locks := { c.locks with host := true }, lastPostingAt := now }

/-- CARD_LOCK inside its posting (R36). -/
def postCardLock (serial : Nat) (d : Draft) : Judged :=
  match cardOf d.records serial with
  | none => (d, refuse .noCard)
  | some (j, c) =>
      match lifeRefusal c.state with
      | some r => (d, refuse r)
      | none =>
          if c.state = .locked ∧ c.locks.host = true then (d, answer .ok (lockBody c))
          else ((d.putCard j (hostLocked d.now c)).commit, answer .ok (lockBody (hostLocked d.now c)))

/-- A LOCKED card with HOST removed from its lock causes: ACTIVE unless VELOCITY remains; last posting at moves if HOST was
there (R37). -/
def hostUnlocked (now : Nat) (c : Card) : Card :=
  { c with
    state := if c.locks.velocity then .locked else .active
    locks := { c.locks with host := false }
    lastPostingAt := if c.locks.host then now else c.lastPostingAt }

/-- A card CARD_UNLOCK leaves as it is: ACTIVE, or LOCKED with VELOCITY as its sole cause (R37). -/
def unlockLeaves (c : Card) : Bool := decide (c.state ≠ .locked) || c.locks.velocity && !c.locks.host

/-- CARD_UNLOCK inside its posting (R37). -/
def postCardUnlock (serial : Nat) (d : Draft) : Judged :=
  match cardOf d.records serial with
  | none => (d, refuse .noCard)
  | some (j, c) =>
      match lifeRefusal c.state with
      | some r => (d, refuse r)
      | none =>
          if unlockLeaves c then (d, answer .ok (lockBody c))
          else ((d.putCard j (hostUnlocked d.now c)).commit, answer .ok (lockBody (hostUnlocked d.now c)))

/-- The record of a card whose retirement is finalised (R41, R44). -/
def retiredCard (now : Nat) (reason : RetireReason) (c : Card) : Card :=
  { c with
    state := .retired
    locks := { host := false, velocity := false }
    available := 0
    lastPostingAt := now
    retireReason := some reason
    retiredAt := some now }

/-- A retirement finalised on a card: its value leaves outstanding into merchant 0's K or into retired value (R41). -/
def Draft.finalise (d : Draft) (slot : Nat) (c : Card) (reason : RetireReason) : Draft :=
  let d1 := d.putCard slot (retiredCard d.now reason c)
  match reason with
  | .cashOut => (d1.post 0 .k c.available).addOutstanding (-(c.available : Int))
  | .closed => (d1.addRetired c.available).addOutstanding (-(c.available : Int))
  | .expired => (d1.addRetired c.available).addOutstanding (-(c.available : Int))
  | .transferred => d1

/-- The merchant whose open entry a finalisation changes, evaluated after the posting's changes (R41, R152). -/
def Draft.evalFinalised (d : Draft) : RetireReason → Draft
  | .cashOut => d.evalMerchant 0
  | .closed => d
  | .expired => d
  | .transferred => d

/-- A card asked to retire while holds are open (R39). -/
def closingCard (now : Nat) (reason : RetireReason) (c : Card) : Card :=
  { c with
    state := .closing
    locks := { host := false, velocity := false }
    lastPostingAt := now
    retireReason := some reason }

/-- CARD_RETIRE inside its posting (R39, R41). -/
def postCardRetire (serial : Nat) (reason : RetireReason) (d : Draft) : Judged :=
  match cardOf d.records serial with
  | none => (d, refuse .noCard)
  | some (j, c) =>
      match lifeRefusal c.state with
      | some r => (d, refuse r)
      | none =>
          if c.openHolds = 0 then
            (((d.finalise j c reason).evalFinalised reason).commit,
              answer .ok (field 4 c.available ++ field 4 c.held ++ field 1 c.openHolds))
          else
            ((d.putCard j (closingCard d.now reason c)).commit,
              answer .deferred (field 4 c.available ++ field 4 c.held ++ field 1 c.openHolds))

/-- The card record a transfer creates for its target (R45). -/
def transferTarget (serial : Nat) (source : Card) (now : Nat) : Card :=
  { issuedCard serial 0 source.available 0 now with validUntil := source.validUntil }

/-- The response of an approved transfer (R44, R192); its card concerned has no stated value (entry 13). It carries the
target's slot index, as R44 and R192 say and R25 does not (DEDUCED, entry 35). -/
def transferBody (moved slot available : Nat) (created : Bool) : Body :=
  openBytes 1 ++ field 4 moved ++ field 2 slot ++ field 4 available ++ flagField created

/-- CARD_TRANSFER to a target that is not found (R43 checks 5 and 6, R44, R45). -/
def transferToNew (x : Nat) (source : Card) (target : Nat) (free : Option Nat) (d : Draft) : Judged :=
  match free with
  | none => (d, refuseTransfer .target .directoryFull)
  | some j =>
      if overCap d.records.limits 0 source.available then (d, refuseTransfer .target .capExceeded)
      else
        (((d.placeCard j (transferTarget target source d.now)).putCard x
            (retiredCard d.now .transferred source)).evalDirHigh.commit,
          answer .ok (transferBody source.available j source.available true))

/-- CARD_TRANSFER to a target that is found (R43 checks 5 and 6, R44). -/
def transferToCard (x : Nat) (source : Card) (y : Nat) (target : Card) (d : Draft) : Judged :=
  match stateRefusal target.state with
  | some r => (d, refuseTransfer .target r)
  | none =>
      if overCap d.records.limits (target.available + target.held) source.available then
        (d, refuseTransfer .target .capExceeded)
      else
        (((d.putCard y { target with available := target.available + source.available, lastPostingAt := d.now }).putCard x
            (retiredCard d.now .transferred source)).commit,
          answer .ok (transferBody source.available y (target.available + source.available) false))

/-- CARD_TRANSFER inside its posting (R43, R44). -/
def postCardTransfer (source target : Nat) (d : Draft) : Judged :=
  match cardOf d.records source with
  | none => (d, refuseTransfer .source .noCard)
  | some (x, c) =>
      if target = source then (d, refuseTransfer .source .badParameter)
      else
        match lifeRefusal c.state with
        | some r => (d, refuseTransfer .source r)
        | none =>
            if c.openHolds ≠ 0 then (d, refuseTransfer .source .holdsOpen)
            else
              match cardOf d.records target with
              | some (y, t) => transferToCard x c y t d
              | none => transferToNew x c target (lookup d.records.directory target).free d

/-- CARD_PURGE inside its posting (R46, R47). Its response carries the slot vacated, as R46 and R192 say and R25 does not
(DEDUCED, entry 35). -/
def postCardPurge (serial : Nat) (d : Draft) : Judged :=
  match cardOf d.records serial with
  | none => (d, refuse .noCard)
  | some (j, c) =>
      if c.state = .retired then ((d.purgeCard j).evalDirHigh.commit, answer .ok (field 2 j))
      else (d, refuse .notRetired)

end Sys2Proof.Machine
end

