-- ==== Sys2Proof/Machine/Holds.lean ====
section
/-! DEFINITION. Holds, Redemptions and Refunds (chapter 4): the judgement and changes of the spending postings and of the
Expiry Unit's posting. -/

namespace Sys2Proof.Machine

/-- The approved part of an amount against a card's available value (R56). -/
def approve (available amount : Nat) (partialAllowed : Bool) : Option Nat :=
  if amount ≤ available then some amount
  else if 0 < available && partialAllowed then some available
  else none

/-- OK when the whole amount is approved, PARTIAL when a part is (R56, R64). -/
def approvalResult (approved amount : Nat) : Result := if approved = amount then .ok else .partialApproval

/-- The card and merchant checks of a spend (R55, R57). -/
def spendChecks (d : Draft) (serial merchant : Nat) : Except Result (Nat × Card) :=
  match usableCard d serial with
  | .error r => .error r
  | .ok jc =>
      match tradingRefusal (merchantOf d.records merchant) with
      | some r => .error r
      | none => .ok jc

/-- The changes of a value posting that takes value off the cards into a merchant's R (R56, R65). -/
def Draft.takeValue (d : Draft) (merchant x : Nat) : Draft := (d.post merchant .r x).addOutstanding (-(x : Int))

/-- The card a redemption leaves: value taken, the spend counted (R56, R74, R75). -/
def redeemedCard (d : Draft) (c : Card) (x : Nat) : Card :=
  spendCard d.records.limits d.now { c with available := c.available - x, lastPostingAt := d.now }

/-- The raw events of a spend on a card (R75). -/
def Draft.spendEvents (d : Draft) (c : Card) : Draft :=
  { d with events := d.events ||| spendBit d.records.limits d.now c }

/-- The changes of an approved redemption (R56). -/
def redeemChanges (d : Draft) (slot : Nat) (c : Card) (merchant x : Nat) : Draft :=
  (((((d.spendEvents c).putCard slot (redeemedCard d c x)).takeValue merchant x).evalMerchant merchant)).commit

/-- Amount, available, held and state of a card (R191). -/
def amountBody (x : Nat) (c : Card) : Body :=
  field 4 x ++ field 4 c.available ++ field 4 c.held ++ field 1 (cardStateCode c.state)

/-- REDEEM inside its posting (R55, R56). -/
def postRedeem (serial merchant amount : Nat) (d : Draft) : Judged :=
  match spendChecks d serial merchant with
  | .error r => (d, refuse r)
  | .ok (j, c) =>
      match approve c.available amount (merchantOf d.records merchant).settings.partialAllowed with
      | none => (d, refuse .insufficient)
      | some x =>
          (redeemChanges d j c merchant x,
            answer (approvalResult x amount) (amountBody x (redeemedCard d c x)))

/-- The entry an approved placement adds (R59). -/
def placedHold (d : Draft) (slot merchant x lifetime : Nat) : Hold :=
  { id := allocateHoldId d.records.holds d.records.holdIdCounter, slot := slot, merchant := merchant, amount := x,
    tolerance := (merchantOf d.records merchant).settings.tolerance, createdAt := d.now,
    deadline := addTime d.now (clampLifetime d.records.limits.value lifetime) }

/-- The card a placement leaves (R53, R59, R74, R75). -/
def holdingCard (d : Draft) (c : Card) (x : Nat) : Card :=
  spendCard d.records.limits d.now
    { c with available := c.available - x, held := c.held + x, openHolds := c.openHolds + 1, lastPostingAt := d.now }

/-- A hold entry added, with the merchant's open-hold count (R53); the counter becomes the id after it (R54). -/
def Draft.addHold (d : Draft) (h : Hold) : Draft :=
  let x := merchantOf d.records h.merchant
  (d.mapRecords (fun r => { r with holds := insertHold h r.holds, holdIdCounter := nextHoldId h.id })).putMerchant
    h.merchant { x with openHolds := x.openHolds + 1 }

/-- A hold entry removed, with the merchant's open-hold count (R53). -/
def Draft.removeHold (d : Draft) (h : Hold) : Draft :=
  let x := merchantOf d.records h.merchant
  (d.mapRecords (fun r => { r with holds := eraseHold r.holds h.id })).putMerchant
    h.merchant { x with openHolds := x.openHolds - 1 }

/-- The changes of an approved placement (R59). -/
def placeChanges (d : Draft) (slot : Nat) (c : Card) (h : Hold) : Draft :=
  ((((d.spendEvents c).addHold h).putCard slot (holdingCard d c h.amount)).evalHoldsHigh).commit

/-- HOLD_PLACE inside its posting (R57 to R59). -/
def postHoldPlace (serial merchant amount lifetime : Nat) (d : Draft) : Judged :=
  match spendChecks d serial merchant with
  | .error r => (d, refuse r)
  | .ok (j, c) =>
      if Config.maxCardHolds ≤ c.openHolds then (d, refuse .cardHoldsFull)
      else if Config.maxHolds ≤ d.records.holds.length then (d, refuse .holdsFull)
      else
        match approve c.available amount (merchantOf d.records merchant).settings.partialAllowed with
        | none => (d, refuse .insufficient)
        | some x =>
            let h := placedHold d j merchant x lifetime
            (placeChanges d j c h,
              answer (approvalResult x amount)
                (field 2 h.id ++ field 4 x ++ field 4 h.deadline ++ field 4 (holdingCard d c x).available ++
                  field 4 (holdingCard d c x).held ++ field 1 (cardStateCode (holdingCard d c x).state)))

/-- A card after one of its holds has ended with `back` of its value returned to available and `drawn` taken from it
(R63, R64, R66). -/
def endedCard (now : Nat) (c : Card) (h : Hold) (back drawn : Nat) : Card :=
  { c with
    available := c.available + back - drawn
    held := c.held - h.amount
    openHolds := c.openHolds - 1
    lastPostingAt := now }

/-- The retirement of a CLOSING card whose last hold has ended (R42); other cards stay as they are. -/
def finalReason (c : Card) : Option RetireReason :=
  if c.state = .closing ∧ c.openHolds = 0 then c.retireReason else none

/-- The card as a posting that ended one of its holds leaves it: written, or its retirement finalised (R42). -/
def Draft.settleCard (d : Draft) (slot : Nat) (c : Card) : Draft :=
  match finalReason c with
  | none => d.putCard slot c
  | some reason => d.finalise slot c reason

/-- The record a posting that ended a hold leaves on the card (R41, R42). Responses read available and state from it, so one
that finalised a retirement carries available 0: R61, R65 and R67 ask for the values after the posting, where R42 speaks of
the response the request would have had otherwise (DEDUCED, entry 36). -/
def settledCard (now : Nat) (c : Card) : Card :=
  match finalReason c with
  | none => c
  | some reason => retiredCard now reason c

/-- The evaluation a finalised cash-out calls for (R41, R152). -/
def Draft.evalSettled (d : Draft) (c : Card) : Draft :=
  match finalReason c with
  | none => d
  | some reason => d.evalFinalised reason

/-- The release of a hold, with the finalisation of a CLOSING card's retirement (R66). -/
def releaseChanges (d : Draft) (h : Hold) (c : Card) : Draft :=
  let c1 := endedCard d.now c h h.amount 0
  ((((d.removeHold h).settleCard h.slot c1).evalSettled c1).evalHoldsHigh).commit

/-- Released amount, available, held and state after a release (R61, R67, R192). -/
def releaseBody (d : Draft) (h : Hold) (c : Card) : Body :=
  amountBody h.amount (settledCard d.now (endedCard d.now c h h.amount 0))

/-- The completion limit field, carried by every completion that found the hold and its merchant (R191). -/
def limitField (h : Hold) : Body := field 5 (completionLimit h)

/-- The refusal of a completion that found the hold: the other fields are 0 (R62, R191). -/
def limitRefusal (h : Hold) (r : Result) : Answer := answer r (field 13 0 ++ limitField h)

/-- The changes of a completion approved for `x`, `back` returned to available or `drawn` from it (R63 to R65). -/
def completeChanges (d : Draft) (h : Hold) (c : Card) (x back drawn : Nat) : Draft :=
  let c1 := endedCard d.now c h back drawn
  ((((((d.removeHold h).takeValue h.merchant x).settleCard h.slot c1).evalMerchant h.merchant).evalSettled
    c1).evalHoldsHigh).commit

/-- A completion approved for `x` (R65). -/
def completed (d : Draft) (h : Hold) (c : Card) (r : Result) (x back drawn : Nat) : Judged :=
  (completeChanges d h c x back drawn,
    answer r (amountBody x (settledCard d.now (endedCard d.now c h back drawn)) ++ limitField h))

/-- A completion of more than the hold but within its limit (R64). -/
def completeOver (d : Draft) (h : Hold) (c : Card) (amount : Nat) (partialAllowed : Bool) : Judged :=
  if amount - h.amount ≤ c.available then completed d h c .ok amount 0 (amount - h.amount)
  else if partialAllowed then completed d h c .partialApproval (h.amount + c.available) 0 c.available
  else (d, limitRefusal h .insufficient)

/-- A completion of a hold that stands, is the merchant's and whose card is known (R60 steps 3 to 6). -/
def completeHold (d : Draft) (h : Hold) (c : Card) (amount : Nat) : Judged :=
  if h.deadline ≤ d.now then
    ((releaseChanges d h c).raise .holdExpired, answer .holdExpired (releaseBody d h c ++ limitField h))
  else if completionLimit h < amount then (d, limitRefusal h .overTolerance)
  else if amount ≤ h.amount then completed d h c .ok amount (h.amount - amount) 0
  else completeOver d h c amount (merchantOf d.records h.merchant).settings.partialAllowed

/-- HOLD_COMPLETE inside its posting (R60). An entry whose card has no record is reached by no run (R53; entry 26). -/
def postHoldComplete (hold merchant amount : Nat) (d : Draft) : Judged :=
  match findHold d.records.holds hold with
  | none => (d, refuse .noHold)
  | some h =>
      if h.merchant ≠ merchant then (d, refuse .wrongMerchant)
      else
        match tableFind d.records.cards h.slot with
        | none => (d, refuse .noHold)
        | some c => completeHold d h c amount

/-- HOLD_VOID inside its posting (R67). -/
def postHoldVoid (hold merchant : Nat) (d : Draft) : Judged :=
  match findHold d.records.holds hold with
  | none => (d, refuse .noHold)
  | some h =>
      if h.merchant ≠ merchant then (d, refuse .wrongMerchant)
      else
        match tableFind d.records.cards h.slot with
        | none => (d, refuse .noHold)
        | some c =>
            if h.deadline ≤ d.now then
              ((releaseChanges d h c).raise .holdExpired, answer .holdExpired (releaseBody d h c))
            else (releaseChanges d h c, answer .ok (releaseBody d h c))

/-- REFUND inside its posting (R72, R73). -/
def postRefund (serial merchant amount : Nat) (d : Draft) : Judged :=
  match usableCard d serial with
  | .error r => (d, refuse r)
  | .ok (j, c) =>
      match refundRefusal (merchantOf d.records merchant) with
      | some r => (d, refuse r)
      | none =>
          if overCap d.records.limits (c.available + c.held) amount then (d, refuse .capExceeded)
          else
            (creditChanges d j c merchant .f amount, answer .ok (field 4 (c.available + amount) ++ field 4 c.held))

/-- An Expiry Unit posting for a hold id (R69). -/
def postExpiry (hold : Nat) (d : Draft) : Draft :=
  match findHold d.records.holds hold with
  | none => d
  | some h =>
      match tableFind d.records.cards h.slot with
      | none => d
      | some c => (releaseChanges d h c).raise .holdExpired

end Sys2Proof.Machine
end

