-- ==== Sys2Proof/Machine/Reads.lean ====
section
/-! DEFINITION. The reads (R83, R86): what each answers from the records as the last posting to end left them, and the two
that change volatile state when served, CLOCK_SET and EVENTS_CLEAR. -/

namespace Sys2Proof.Machine

/-- Page 0 of CARD_INQUIRE (R192). -/
def cardPage0 (slot : Nat) (c : Card) : Body :=
  field 2 slot ++ field 8 c.serial ++ field 1 (cardStateCode c.state) ++ field 1 (lockCode c.locks) ++
  field 4 c.available ++ field 4 c.held ++ field 1 c.openHolds ++ field 2 c.issuer ++ field 1 c.velocityCount ++
  flagField c.velocityLatched

/-- Page 1 of CARD_INQUIRE (R192). -/
def cardPage1 (slot : Nat) (c : Card) : Body :=
  field 2 slot ++ field 4 c.issuedAt ++ field 4 c.lastPostingAt ++ optTimeField c.validUntil ++ field 4 c.windowStart ++
  field 1 (optReasonCode c.retireReason) ++ optTimeField c.retiredAt

/-- CARD_INQUIRE served (R48). -/
def readCardInquire (serial page : Nat) (s : State) : Answer :=
  match cardOf s.records serial with
  | none => refuse .noCard
  | some (j, c) => answer .ok (if page = 0 then cardPage0 j c else cardPage1 j c)

/-- Page 0 of HOLD_INQUIRE (R192). -/
def holdPage0 (h : Hold) : Body :=
  field 2 h.id ++ field 2 h.merchant ++ field 4 h.amount ++ field 2 h.tolerance ++ limitField h ++ field 4 h.createdAt ++
  field 4 h.deadline

/-- Page 1 of HOLD_INQUIRE (R192). -/
def holdPage1 (h : Hold) (c : Card) : Body :=
  field 2 h.id ++ field 2 h.slot ++ field 8 c.serial ++ field 1 (cardStateCode c.state)

/-- HOLD_INQUIRE served (R76). An entry whose card has no record is reached by no run (R53; entry 26). -/
def readHoldInquire (hold page : Nat) (s : State) : Answer :=
  match findHold s.records.holds hold with
  | none => refuse .noHold
  | some h =>
      match tableFind s.records.cards h.slot with
      | none => refuse .noHold
      | some c => answer .ok (if page = 0 then holdPage0 h else holdPage1 h c)

/-- Page 1 of MERCHANT_INQUIRE (R192). -/
def merchantPage1 (r : Records) (m : Nat) : Body :=
  let e := openEntry r m
  field 2 m ++ posField e.r ++ posField e.f ++ posField e.s ++ posField e.k

/-- MERCHANT_INQUIRE served (R113). -/
def readMerchantInquire (m page : Nat) (s : State) : Answer :=
  answer .ok (if page = 0 then merchantPage0 s.records m else merchantPage1 s.records m)

/-- The staged schedule of a selector; while its flag is clear the tier count is 0 and the other fields have no stated
value (R123; entry 14). -/
def stagedField (r : Records) : Select → Body
  | .a => if r.stagedAValid then scheduleField r.stagedA else field 1 0 ++ openBytes 25
  | .b => if r.stagedBValid then scheduleField r.stagedB else field 1 0 ++ openBytes 25

/-- SCHEDULE_READ served (R123). -/
def readScheduleOf (sel : Select) (src : ScheduleSource) (s : State) : Answer :=
  match src with
  | .opened => answer .ok (scheduleField (bankSchedule s.records.openBank sel))
  | .staged => answer .ok (stagedField s.records sel)
  | .closing =>
      if s.records.closingBank.state = .absent then refuse .noStatement
      else answer .ok (scheduleField (bankSchedule s.records.closingBank sel))

/-- A page of a statement (R134, R191). -/
def statementPage (period : Nat) (e : Entry) (sel : Select) (st : Statement) (page : Nat) : Body :=
  if page = 0 then
    field 1 period ++ posField e.r ++ posField e.f ++ posField e.s ++ posField e.k ++ field 1 (selectCode sel)
  else if page = 1 then
    field 1 period ++ posField st.base ++ posField st.commission ++ posField st.allowance ++ posField st.net ++
    flagField st.saturated
  else
    field 1 period ++ posField e.dIn ++ posField st.payout ++ posField st.dOut ++ field 4 e.postings

/-- A statement of a READY bank (R134). In a run every captured entry of a READY bank has its statement (R133; entry
26). -/
def readReady (b : Bank) (m page : Nat) : Answer :=
  let e := tableGet zeroEntry b.entries m
  match e.captured, e.statement with
  | some sel, some st => answer .ok (statementPage b.period e sel st page)
  | some _, none => refuse .noStatement
  | none, _ => refuse .noStatement

/-- STATEMENT_READ served (R134). -/
def readStatement (m page : Nat) (s : State) : Answer :=
  let b := s.records.closingBank
  match b.state with
  | .absent => refuse .noStatement
  | .opened => refuse .noStatement
  | .computing => refuse .notReady
  | .ready => readReady b m page

/-- Page 0 of TOTALS_READ (R192). -/
def totalsPage0 (s : State) : Body :=
  let t := s.records.totals
  posField t.outstanding ++ posField t.retiredValue ++ field 1 t.openPeriod ++ flagField t.closeDeferred ++
  flagField s.alarmPending ++ field 4 t.floor ++ field 2 s.records.occupancy ++ field 2 s.records.holds.length

/-- Page 1 of TOTALS_READ, the open bank (R192). -/
def totalsPage1 (b : Bank) : Body :=
  field 1 b.period ++ field 1 (bankStateCode b.state) ++ field 4 b.openedAt ++ posField b.openingOutstanding ++
  posField b.retiredInPeriod ++ flagField b.saturated

/-- Page 2 of TOTALS_READ, the closing bank (R192). -/
def totalsPage2 (b : Bank) : Body :=
  field 1 b.period ++ field 1 (bankStateCode b.state) ++
    if b.state = .absent then field 14 0
    else
      field 4 (b.closedAt.getD 0) ++ posField (b.closedOutstanding.getD 0) ++ flagField b.saturated ++
      field 2 (b.nextMerchant.getD 0)

/-- Page 3 of TOTALS_READ, the closing bank (R192). -/
def totalsPage3 (b : Bank) : Body :=
  field 1 b.period ++
    if b.state = .absent then field 16 0
    else field 4 b.openedAt ++ posField b.openingOutstanding ++ posField b.retiredInPeriod

/-- TOTALS_READ served (R95). -/
def readTotals (page : Nat) (s : State) : Answer :=
  answer .ok
    (if page = 0 then totalsPage0 s
     else if page = 1 then totalsPage1 s.records.openBank
     else if page = 2 then totalsPage2 s.records.closingBank
     else totalsPage3 s.records.closingBank)

/-- The lowest merchant from `k` on with a latched condition (R163). Merchants stand in rising order. -/
def scanMerchants (t : Table Merchant) (k : Nat) : Option (Nat × Merchant) :=
  t.find? (fun e => decide (k ≤ e.1) && (e.2.refundLatched || e.2.deficitLatched))

/-- The lowest slot from `k` on whose card has VELOCITY latched (R163). Cards stand in rising order of slot. -/
def scanCards (t : Table Card) (k : Nat) : Option (Nat × Card) :=
  t.find? (fun e => decide (k ≤ e.1) && e.2.velocityLatched)

/-- CONDITION_SCAN served (R163). -/
def readScan (kind : ScanKind) (start : Nat) (s : State) : Answer :=
  match kind with
  | .merchant =>
      match scanMerchants s.records.merchants start with
      | none => answer .ok (flagField false)
      | some e =>
          answer .ok (flagField true ++ field 2 e.1 ++ field 1 (merchantFlags e.2) ++
            field 1 (merchantStateCode e.2.state))
  | .card =>
      match scanCards s.records.cards start with
      | none => answer .ok (flagField false)
      | some e =>
          answer .ok (flagField true ++ field 2 e.1 ++ field 8 e.2.serial ++ field 1 (cardStateCode e.2.state) ++
            field 1 (lockCode e.2.locks))

/-- EVENTS_READ served (R166). -/
def readEvents (s : State) : Answer :=
  answer .ok (field 1 s.events.toNat ++ field 1 s.records.limits.device.enable.toNat ++ field 1 (pendingSet s).toNat ++
    field 1 (firstCause (pendingSet s)).toNat ++ field 1 (deviceConditions s) ++ flagField (nattnLow s))

/-- EVENTS_CLEAR served: each named flag becomes clear (R167). -/
def serveEventsClear (flags : BitVec 8) (s : State) : State × Answer :=
  let s1 := { s with events := s.events &&& ~~~flags }
  (s1, answer .ok (field 1 s1.events.toNat ++ flagField (nattnLow s1)))

/-- CLOCK_SET served (R10). -/
def serveClockSet (v : Nat) (s : State) : State × Answer :=
  if isBehind s v then (s, answer .clockBehind (clockBody s))
  else (takeSet s v, answer .ok (clockBody (takeSet s v)))

/-- CLOCK_READ served (R11). -/
def readClock (s : State) : Answer := answer .ok (clockBody s)

/-- LIMITS_READ served (R193). -/
def readLimits (g : LimitsGroup) (s : State) : Answer := answer .ok (limitsBody s.records.limits g)

/-- What serving a read does and answers; none for a command that is no read (R83). -/
def serve : Instr → State → Option (State × Answer)
  | .cardInquire x p, s => some (s, readCardInquire x p s)
  | .holdInquire h p, s => some (s, readHoldInquire h p s)
  | .merchantInquire m p, s => some (s, readMerchantInquire m p s)
  | .scheduleRead sel src, s => some (s, readScheduleOf sel src s)
  | .statementRead m p, s => some (s, readStatement m p s)
  | .totalsRead p, s => some (s, readTotals p s)
  | .conditionScan k n, s => some (s, readScan k n s)
  | .eventsRead, s => some (s, readEvents s)
  | .eventsClear f, s => some (serveEventsClear f s)
  | .clockSet v, s => some (serveClockSet v s)
  | .clockRead, s => some (s, readClock s)
  | .limitsRead g, s => some (s, readLimits g s)
  | _, _ => none

/-- The requests of the Read class (R83). -/
def isRead : Instr → Bool
  | .cardInquire _ _ => true
  | .holdInquire _ _ => true
  | .merchantInquire _ _ => true
  | .scheduleRead _ _ => true
  | .statementRead _ _ => true
  | .totalsRead _ => true
  | .conditionScan _ _ => true
  | .eventsRead => true
  | .eventsClear _ => true
  | .clockSet _ => true
  | .clockRead => true
  | .limitsRead _ => true
  | _ => false

end Sys2Proof.Machine
end

