-- ==== Sys2Proof/Machine/Port.lean ====
section
/-! DEFINITION. The request slots of the Link Port (R183 to R187), their eligibility (R84 to R86), the answers given without
a grant (R92, R93), acceptance (R186) and the frames (R181, R184, R185, R188). -/

namespace Sys2Proof.Machine

/-! Slots -/

/-- The request an accepted slot holds. -/
def requestOf (q : Slot) : Option Instr :=
  match decodeRequest q.code.toNat q.params with
  | .ok i => some i
  | .unknown => none
  | .badParameter => none
  | .badAmount => none

/-- Whether a slot holds a request of the Posting class (R83). -/
def isPostingSlot (q : Slot) : Bool :=
  match requestOf q with
  | none => false
  | some i => !isRead i

/-- Whether a slot holds a read (R83). -/
def isReadSlot (q : Slot) : Bool :=
  match requestOf q with
  | none => false
  | some i => isRead i

/-- Whether two slots name a common serial (R85). -/
def shareSerial (a b : Slot) : Bool := a.serials.any (fun x => b.serials.contains x)

/-- The unanswered slots accepted before a slot (R85). -/
def earlier (s : State) (q : Slot) : List Slot := s.port.accepted.takeWhile (fun p => decide (p.place ≠ q.place))

/-- A slot is eligible: no earlier unanswered slot names a serial it names (R85). -/
def eligible (s : State) (q : Slot) : Bool := (earlier s q).all (fun p => !shareSerial p q)

/-- Whether a slot's posting is in flight (R88). -/
def inFlight (s : State) (q : Slot) : Bool :=
  match s.posting with
  | none => false
  | some p => decide (p.item = .slot q.place)

/-- A response placed in a slot: it becomes ANSWERED and joins the end of the delivery order (R187). -/
def answerSlot (s : State) (q : Slot) (a : Answer) : State :=
  { s with port :=
    { s.port with
      accepted := s.port.accepted.filter (fun p => decide (p.place ≠ q.place))
      delivery := s.port.delivery ++ [{ slot := q, answer := a }] } }

/-- The answer a Posting-class slot takes without a grant when it becomes eligible: PARKED, else CLOCK_UNSET (R92,
R93). -/
def blockedAnswer (s : State) : Option Result :=
  if s.supply = some .parked then some .parked
  else if s.clock.state = .unset then some .clockUnset
  else none

/-- One slot of the settling that follows an answer: an eligible read is served, an eligible Posting-class slot is answered
where no grant can be made (R86, R92, R93). -/
def settleOne (s : State) (q : Slot) : State :=
  if !eligible s q then s
  else
    match requestOf q with
    | none => s
    | some i =>
        match serve i s with
        | some (s1, a) => answerSlot s1 q a
        | none =>
            if inFlight s q then s
            else
              match blockedAnswer s with
              | some r => answerSlot s q (refuseSlot q r)
              | none => s

/-- The slots made eligible by an answer are served or answered in acceptance order (R86, R92, R93). A slot waits only on
slots accepted before it, so one pass in that order reaches them all. -/
def settle (s : State) : State := s.port.accepted.foldl settleOne s

/-- The oldest eligible read not yet served (R86). -/
def oldestRead (s : State) : Option Slot :=
  if running s then s.port.accepted.find? (fun q => isReadSlot q && eligible s q) else none

/-- The state in which the next step is taken: a read is served at the moment it becomes eligible, so one that is eligible
and not yet served is served before anything else comes about, just as its own row serves it (R86; entry 25). -/
def readsServed (s : State) : State :=
  match oldestRead s with
  | none => s
  | some q =>
      match (requestOf q).bind (fun i => serve i s) with
      | none => s
      | some (s1, a) => settle (answerSlot s1 q a)

/-- The step of a read row: the oldest eligible read, if it is this request, is served, and the slots its answer makes
eligible follow (R86; entries 1, 25). -/
def serveRow (s : State) (i : Instr) (f : State → State × Answer) : State :=
  match oldestRead s with
  | none => s
  | some q => if requestOf q = some i then settle (answerSlot (f s).1 q (f s).2) else readsServed s

/-! Parking (R93, R174) -/

/-- One slot at the entry to PARKED: a Posting-class slot that is not in flight is answered PARKED (R93). -/
def parkOne (s : State) (q : Slot) : State :=
  if isPostingSlot q && !inFlight s q then answerSlot s q (refuseSlot q .parked) else s

/-- The answers of the entry to PARKED: the Posting-class slots in acceptance order, then the reads made eligible (R93;
entry 10). -/
def answerParked (s : State) : State := settle (s.port.accepted.foldl parkOne s)

/-! Acceptance (R84, R186) -/

/-- The serial of the card of the entry standing under a hold id (R84). -/
def holdSerials (r : Records) (hold : Nat) : List Nat :=
  match findHold r.holds hold with
  | none => []
  | some h =>
      match tableFind r.cards h.slot with
      | none => []
      | some c => [c.serial]

/-- The serials a request names at acceptance (R84). -/
def namedSerials (r : Records) : Instr → List Nat
  | .cardIssue x _ _ _ => [x]
  | .cardReload x _ _ => [x]
  | .cardLock x => [x]
  | .cardUnlock x => [x]
  | .cardRetire x _ => [x]
  | .cardPurge x => [x]
  | .cardInquire x _ => [x]
  | .redeem x _ _ => [x]
  | .holdPlace x _ _ _ => [x]
  | .refund x _ _ => [x]
  | .cardTransfer x y => if x = y then [x] else [x, y]
  | .holdComplete h _ _ => holdSerials r h
  | .holdVoid h _ => holdSerials r h
  | .holdInquire h _ => holdSerials r h
  | _ => []

/-- A new slot put into its place, ACCEPTED (R186). -/
def addSlot (s : State) (q : Slot) : State :=
  { s with port := { s.port with accepted := s.port.accepted ++ [q], nextPlace := s.port.nextPlace + 1 } }

/-- The slot a frame's code, tag and parameters make (R186). -/
def newSlot (s : State) (code tag : Byte) (ps : List Byte) (serials : List Nat) : Slot :=
  { place := s.port.nextPlace, code := code, tag := tag, params := ps, serials := serials }

/-- A slot answered at acceptance; it names no serial (R83, R84). -/
def answerNow (s : State) (code tag : Byte) (ps : List Byte) (r : Result) : State :=
  let q := newSlot s code tag ps []
  answerSlot (addSlot s q) q (refuseSlot q r)

/-- A Posting-class slot that is eligible where no grant can be made is answered at once (R92, R93). -/
def answerBlocked (s : State) (q : Slot) : State :=
  match blockedAnswer s with
  | none => s
  | some r => if eligible s q then answerSlot s q (refuseSlot q r) else s

/-- A request that passed its acceptance checks goes on by its class (R83, R186). An eligible read is served next, in its own
row's step or at the start of any other, before which nothing comes about (R86, `readsServed`; entry 25). -/
def goOn (s : State) (code tag : Byte) (ps : List Byte) (i : Instr) : State :=
  let q := newSlot s code tag ps (namedSerials s.records i)
  if isRead i then addSlot s q else answerBlocked (addSlot s q) q

/-- Acceptance of a request (R186). -/
def accept (s : State) (code tag : Byte) (ps : List Byte) : State :=
  match decodeRequest code.toNat ps with
  | .unknown => answerNow s code tag ps .unknownRequest
  | .badParameter => answerNow s code tag ps .badParameter
  | .badAmount => answerNow s code tag ps .badAmount
  | .ok i => goOn s code tag ps i

/-! Frames -/

/-- Some slot is FREE (R183). -/
def hasFree (s : State) : Bool :=
  decide (s.port.accepted.length + s.port.delivery.length < Config.nPortSlots)

/-- The status byte as the state stands (R188). MORE_RESPONSES looks beside the slot offered in the frame that starts,
which is the head. -/
def statusByte (s : State) : Byte :=
  BitVec.ofNat 8
    (128 * (nattnLow s).toNat + 64 * (decide (1 < s.port.delivery.length)).toNat + 32 * (!hasFree s).toNat +
      16 * s.port.lastRejected.toNat + 8 * s.port.lastNotTaken.toNat + 4 * (decide (s.supply = some .parked)).toNat +
      2 * (decide (s.clock.state = .unset)).toNat +
      (decide (s.records.closingBank.state = .computing)).toNat)

/-- A frame begins: the status byte is latched and the head of the delivery order becomes the offered slot (R184). -/
def beginFrame (s : State) : State :=
  { s with port :=
    { s.port with
      frame := some (statusByte s)
      offered := s.port.delivery.head?.map (fun a => a.slot.place) } }

/-- The response being sent in the current frame (R184). -/
def offeredResponse (s : State) : Option Answered :=
  match s.port.offered with
  | none => none
  | some p => s.port.delivery.find? (fun a => decide (a.slot.place = p))

/-- The 26 result bytes of a response; a byte with no stated value is open (R191; entry 13). -/
def resultBytes (place : Nat) (body : Body) : List Byte :=
  (List.range 26).map (fun n =>
    match body[n]? with
    | none => 0#8
    | some (some b) => b
    | some none => Config.freeByte place n)

/-- Bytes 1 to 29 of the outbound frame (R181). -/
def responseBytes : Option Answered → List Byte
  | none => List.replicate 29 0#8
  | some a =>
      a.slot.tag :: a.slot.code :: BitVec.ofNat 8 (resultCode a.answer.result) ::
        resultBytes a.slot.place a.answer.body

/-- The 32 bytes of the outbound frame in progress, with its CRC; none while no frame is in progress (R181, R182). -/
def outboundFrame (s : State) : Option (List Byte) :=
  match s.port.frame with
  | none => none
  | some status =>
      let bytes := status :: responseBytes (offeredResponse s)
      some (bytes ++ beBytes 2 (crcBytes bytes).toNat)

/-- The bit SDO drives at the `n`-th rising edge of the frame in progress; edges beyond the 256th drive 0 (R181). -/
def sdoBit (s : State) (n : Nat) : Option Bool :=
  (outboundFrame s).map (fun bytes => ((bytes.flatMap byteBits)[n]?).getD false)

/-- SDO is driven while nSEL is low and nRESET is high, and is left undriven otherwise (R189, R194). -/
def sdoDriven (s : State) : Bool := running s && s.nSelLow

/-- Step 1 of a frame's end: a frame of the right length delivers its offered slot, which becomes FREE (R185). -/
def deliver (s : State) (sdi : List Bool) : State :=
  match s.port.offered with
  | none => s
  | some p =>
      if rightLength sdi then
        { s with port :=
          { s.port with delivery := s.port.delivery.filter (fun a => decide (a.slot.place ≠ p)) } }
      else s

/-- The two flags of the frame that ended (R185). -/
def setFrameFlags (s : State) (rejected notTaken : Bool) : State :=
  { s with port := { s.port with lastRejected := rejected, lastNotTaken := notTaken } }

/-- Step 2 of a frame's end: the judgement of the inbound frame (R185). -/
def judgeFrame (s : State) (sdi : List Bool) : State :=
  if !(rightLength sdi && goodCrc sdi) then setFrameFlags s true false
  else
    match toBytes sdi with
    | code :: tag :: rest =>
        if code = 0#8 then setFrameFlags s false false
        else if hasFree s then accept (setFrameFlags s false false) code tag (rest.take 28)
        else setFrameFlags s false true
    | _ => setFrameFlags s true false

/-- Step 3 of a frame's end: the offered slot becomes none; the frame is over (R185). -/
def closeFrame (s : State) : State := { s with port := { s.port with offered := none, frame := none } }

/-- A frame ends: delivery, judgement, and the end of the offer, in this order (R185). -/
def endFrame (s : State) (sdi : List Bool) : State := closeFrame (judgeFrame (deliver s sdi) sdi)

end Sys2Proof.Machine
end

