-- ==== Sys2Proof/Machine/Supply.lean ====
section
/-! DEFINITION. The Supply Watch (chapter 10): its levels and the changes of its state. -/

namespace Sys2Proof.Machine

/-- The warning level in millivolts (R170). -/
def warningMv : WarningLevel → Nat
  | .v300 => 3000
  | .v295 => 2950
  | .v290 => 2900
  | .v285 => 2850

/-- The stop level in millivolts (R170). -/
def stopMv : Nat := 2700

/-- The start level in millivolts (R170). -/
def startMv : Nat := 2750

/-- The warning level in force. -/
def warningLevel (s : State) : Nat := warningMv s.records.limits.device.warning

/-- The recovery level in force: the warning level plus 50 mV (R170). -/
def recoveryLevel (s : State) : Nat := warningLevel s + 50

/-- The Supply Watch measures the supply (entry 6). -/
def measure (s : State) (r : SupplyReading) : State := { s with reading := r }

/-- The supply is strictly below the warning level (R170). -/
def belowWarning (s : State) : Bool := decide (s.reading.vdd < warningLevel s)

/-- The supply is strictly above the recovery level (R170). -/
def aboveRecovery (s : State) : Bool := decide (recoveryLevel s < s.reading.vdd)

/-- Entry to LOW: the guard timer starts with the G in force, SUPPLY_LOW becomes live and latches, and its raw event is
set (R154, R172). -/
def enterLow (s : State) : State :=
  (evalSupplyLow
    { s with
      supply := some .low
      guard := some { startedAt := s.reading.ms, span := s.records.limits.device.guardTime } } true).raise .supplyLow

/-- Return to NORMAL: the guard timer is idle and SUPPLY_LOW is no longer live; leaving PARKED sets PARK_CHANGED (R171,
R172, R175). -/
def enterNormal (s : State) : State :=
  let s1 := evalSupplyLow { s with supply := some .normal, guard := none } false
  if s.supply = some .parked then s1.raise .parkChanged else s1

/-- Entry to PARKED: PARK_CHANGED is set and the Posting-class slots are answered PARKED (R93, R174). -/
def enterParked (s : State) : State :=
  answerParked ((evalSupplyLow { s with supply := some .parked, guard := none } true).raise .parkChanged)

/-- The first evaluation of the supply at power-up or at the release of nRESET (R178, R179). -/
def firstEvaluation (s : State) : State :=
  if belowWarning s then enterLow s else evalSupplyLow { s with supply := some .normal, guard := none } false

/-- The comparison with changed levels at the end of a LIMITS_SET (R176). -/
def compareSupply (s : State) : State :=
  match s.supply with
  | none => s
  | some .normal => if belowWarning s then enterLow s else s
  | some .low => if aboveRecovery s then enterNormal s else s
  | some .parked => if aboveRecovery s then enterNormal s else s

end Sys2Proof.Machine
end

