-- ==== Sys2Proof/Machine/Arbiter.lean ====
section
/-! DEFINITION. The Posting Arbiter (R88 to R91): candidates, rotation, grants, and the end of a posting (R80, R81). -/

namespace Sys2Proof.Machine

/-- The Link candidate: the oldest accepted Posting-class slot that is eligible (R89). -/
def linkCandidate (s : State) : Option Slot :=
  s.port.accepted.find? (fun q => isPostingSlot q && eligible s q)

/-- The Settlement candidate: an alarm cutover, then the earliest due latch, then the next statement step (R89). -/
def settlementCandidate (s : State) : Option Item :=
  if s.alarmPending then some .alarm
  else
    match latchDue s with
    | some q => some (.latch q.merchant)
    | none =>
        if s.records.closingBank.state = .computing then s.records.closingBank.nextMerchant.map Item.step else none

/-- Whether an item needs the clock (R89); a statement step does not. -/
def needsClock : Item → Bool
  | .slot _ => true
  | .hold _ => true
  | .alarm => true
  | .latch _ => true
  | .step _ => false

/-- The candidate of a requester kind (R89). -/
def candidate (s : State) : Kind → Option Item
  | .link => (linkCandidate s).map (fun q => Item.slot q.place)
  | .expiry => s.expiryWaiting.map Item.hold
  | .settlement => settlementCandidate s

/-- A kind has a candidate that may be granted: while the clock is UNSET none that needs it (R91). -/
def grantable (s : State) (k : Kind) : Bool :=
  match candidate s k with
  | none => false
  | some i => decide (s.clock.state = .set) || !needsClock i

/-- The kinds in the order the rotation considers them after the last-granted kind (R90). -/
def rotation : Kind → List Kind
  | .link => [.expiry, .settlement, .link]
  | .expiry => [.settlement, .link, .expiry]
  | .settlement => [.link, .expiry, .settlement]

/-- The arbiter may grant: the write side is free, the device runs and is not PARKED (R90, R91). -/
def mayGrant (s : State) : Bool := running s && s.posting.isNone && decide (s.supply ≠ some .parked)

/-- The kind the arbiter grants now, if any (R90, R91). -/
def arbiterChoice (s : State) : Option Kind :=
  if mayGrant s then (rotation s.lastKind).find? (grantable s) else none

/-- The item the arbiter grants now, if any. -/
def arbiterGrant (s : State) : Option Item :=
  match arbiterChoice s with
  | none => none
  | some k => candidate s k

/-- The change-set a posting starts from: the records as the last posting left them, and the now read at its grant (R82). -/
def startDraft (s : State) : Draft :=
  { records := s.records, qual := s.qual, events := 0#8, dirHigh := s.dirHigh, holdsHigh := s.holdsHigh,
    now := s.clock.value, clearsAlarm := false, finish := .plain }

/-- A grant: the posting is in progress with its now, and its kind is the last granted (R88, R90). A statement step reads
no clock (R132). -/
def beginPosting (s : State) (k : Kind) (item : Item) (change : Draft) (a : Option Answer) : State :=
  { s with
    lastKind := k
    posting := some
      { kind := k, item := item, now := if needsClock item then some s.clock.value else none, change := change,
        answer := a, alarmFired := false } }

/-- The step of a posting-class row: the arbiter grants the Link candidate if it is this request and Link's turn, and the
posting is judged (R82, R89, R90; entry 1). -/
def grantLink (s : State) (i : Instr) (body : Draft → Draft × Answer) : State :=
  match linkCandidate s with
  | none => s
  | some q =>
      if arbiterChoice s = some .link ∧ requestOf q = some i then
        beginPosting s .link (.slot q.place) (body (startDraft s)).1 (some (body (startDraft s)).2)
      else s

/-- The step of an internal posting: the arbiter grants the item if it is the one it grants now (R89, R90; entry 1). -/
def grantInternal (s : State) (k : Kind) (item : Item) (body : Draft → Draft) : State :=
  if arbiterChoice s = some k ∧ candidate s k = some item then
    beginPosting s k item (body (startDraft s)) none
  else s

/-! The end of a posting -/

/-- The changes of a posting become visible together and the write side becomes free (R80). A firing of the alarm taken
while a cutover was in flight stays pending (R125). The Expiry Unit's request becomes none when its posting ends (R69). -/
def applyChange (s : State) (p : Posting) : State :=
  { s with
    records := p.change.records
    qual := p.change.qual
    events := s.events ||| p.change.events
    dirHigh := p.change.dirHigh
    holdsHigh := p.change.holdsHigh
    alarmPending := if p.change.clearsAlarm then p.alarmFired else s.alarmPending
    expiryWaiting := if p.kind = .expiry then none else s.expiryWaiting
    posting := none }

/-- The counts of a DEVICE clear with SUPPLY_LOW as it stands at the posting's end (R160; entry 9). -/
def supplyTally (s : State) (cleared remaining : Nat) : Nat × Nat :=
  if s.supplyLow.latched then
    if s.supplyLow.live then (cleared, remaining + 1) else (cleared + 1, remaining)
  else (cleared, remaining)

/-- The end of a DEVICE clear: SUPPLY_LOW is cleared unless it is live now; the floor is written when a condition was
cleared (R160). -/
def endDeviceClear (s : State) (now cleared : Nat) : State :=
  let s1 := { s with supplyLow := { s.supplyLow with latched := s.supplyLow.latched && s.supplyLow.live } }
  if cleared = 0 then s1
  else { s1 with records := { s1.records with totals := { s1.records.totals with floor := now } } }

/-- What a posting still does at its end (R160, R176). -/
def finishState (s : State) (p : Posting) : State :=
  match p.change.finish with
  | .plain => s
  | .clearSupplyLow c r => endDeviceClear s p.change.now (supplyTally s c r).1
  | .supplyLevels => compareSupply s

/-- The response a posting places at its end. -/
def finishAnswer (s : State) (p : Posting) : Option Answer :=
  match p.change.finish with
  | .plain => p.answer
  | .clearSupplyLow c r =>
      some (answer .ok (field 2 (supplyTally s c r).1 ++ field 2 (supplyTally s c r).2))
  | .supplyLevels => p.answer

/-- A link posting's response is placed in its slot (R81). -/
def placeAnswer (s : State) (item : Item) (a : Option Answer) : State :=
  match item, a with
  | .slot p, some ans =>
      match s.port.accepted.find? (fun q => decide (q.place = p)) with
      | none => s
      | some q => answerSlot s q ans
  | _, _ => s

/-- The posting in progress ends (R80, R81): its changes, its response, then the slots made eligible (R86), then the Expiry
Unit's test (R68). -/
def endPosting (s : State) : State :=
  match s.posting with
  | none => s
  | some p =>
      let s1 := applyChange s p
      expiryTest (settle (placeAnswer (finishState s1 p) p.item (finishAnswer s1 p)))

end Sys2Proof.Machine
end

