-- ==== Sys2Proof/Machine/Conditions.lean ====
section
/-! DEFINITION. The clears of latched conditions (R160, R161) and the latch posting (R158). -/

namespace Sys2Proof.Machine

/-- How many conditions a clear cleared and how many in its scope remain latched (R160). -/
structure Tally where
  cleared : Nat
  remaining : Nat
  deriving DecidableEq, Repr

/-- A condition of a clear's scope: nothing if it is not latched, remaining if it is live, cleared otherwise (R160). -/
def tallyOne (t : Tally) (latched live : Bool) : Tally :=
  if latched then
    if live then { t with remaining := t.remaining + 1 } else { t with cleared := t.cleared + 1 }
  else t

/-- The response of a clear (R192). -/
def tallyBody (t : Tally) : Body := field 2 t.cleared ++ field 2 t.remaining

/-- A device flag after a clear: a latched class that is not live is cleared (R160). -/
def clearedFlag (f : DevFlag) : DevFlag := { f with latched := f.latched && f.live }

/-- CONDITIONS_CLEAR of scope DEVICE inside its posting (R160). SUPPLY_LOW is judged at the posting's end, and with it the
counts and the floor (entry 9). -/
def postClearDevice (d : Draft) : Judged :=
  let t := tallyOne (tallyOne { cleared := 0, remaining := 0 } d.dirHigh.latched d.dirHigh.live)
    d.holdsHigh.latched d.holdsHigh.live
  ({ d with
      dirHigh := clearedFlag d.dirHigh
      holdsHigh := clearedFlag d.holdsHigh
      finish := .clearSupplyLow t.cleared t.remaining },
    answer .ok (tallyBody t))

/-- REFUND_RATIO and DEFICIT of a merchant record cleared where they are not live, with their blocks (R161). -/
def clearedMerchant (refund deficit : Bool) (x : Merchant) : Merchant :=
  { x with
    refundLatched := x.refundLatched && refund
    refundsBlocked := x.refundsBlocked && !(x.refundLatched && !refund)
    deficitLatched := x.deficitLatched && deficit
    salesBlocked := x.salesBlocked && !(x.deficitLatched && !deficit) }

/-- One merchant of a clear's scope (R160, R161). -/
def clearMerchant (dt : Draft × Tally) (m : Nat) : Draft × Tally :=
  let d := dt.1
  let x := merchantOf d.records m
  let refund := refundLive d.records.limits.monitor (openEntry d.records m)
  let deficit := deficitLive d.records.limits.monitor (openEntry d.records m)
  (d.putMerchant m (clearedMerchant refund deficit x),
    tallyOne (tallyOne dt.2 x.refundLatched refund) x.deficitLatched deficit)

/-- The end of a clear: the floor is written when at least one condition was cleared (R160). -/
def clearEnd (d : Draft) (dt : Draft × Tally) : Judged :=
  (if dt.2.cleared = 0 then d else dt.1.commit, answer .ok (tallyBody dt.2))

/-- CONDITIONS_CLEAR of scope MERCHANT inside its posting (R160). -/
def postClearMerchant (m : Nat) (d : Draft) : Judged :=
  clearEnd d (clearMerchant (d, { cleared := 0, remaining := 0 }) m)

/-- CONDITIONS_CLEAR of scope ALL_MERCHANTS inside its posting (R160). A merchant that is not listed has nothing
latched. -/
def postClearAllMerchants (d : Draft) : Judged :=
  clearEnd d ((d.records.merchants.map (fun e => e.1)).foldl clearMerchant (d, { cleared := 0, remaining := 0 }))

/-- The card state after its VELOCITY cause is removed: a LOCKED card with no HOST cause becomes ACTIVE (R38, R161). -/
def unlockedState (c : Card) : CardState :=
  match c.state with
  | .locked => if c.locks.host then .locked else if c.locks.velocity then .active else .locked
  | .active => .active
  | .closing => .closing
  | .retired => .retired

/-- A card whose latched VELOCITY is cleared (R161). -/
def clearedCard (now : Nat) (c : Card) : Card :=
  { c with
    velocityLatched := false
    locks := { c.locks with velocity := false }
    state := unlockedState c
    lastPostingAt := now }

/-- CONDITIONS_CLEAR of scope CARD inside its posting (R160, R161). -/
def postClearCard (serial : Nat) (d : Draft) : Judged :=
  match cardOf d.records serial with
  | none => (d, refuse .noCard)
  | some (j, c) =>
      let live := velocityLive d.records.limits.monitor d.now c
      let t := tallyOne { cleared := 0, remaining := 0 } c.velocityLatched live
      (if c.velocityLatched && !live then (d.putCard j (clearedCard d.now c)).commit else d, answer .ok (tallyBody t))

/-- A latch posting for a merchant (R158): its list entry is removed and REFUND_RATIO is evaluated on its open entry. -/
def postLatch (m : Nat) (d : Draft) : Draft :=
  let d1 := { d with qual := eraseQual d.qual m }
  if refundLive d.records.limits.monitor (openEntry d.records m) && !(merchantOf d.records m).refundLatched then
    (d1.latchRefund m).commit
  else d1

end Sys2Proof.Machine
end

