-- ==== Sys2Proof/Machine/Periods.lean ====
section
/-! DEFINITION. Settlement Periods (chapter 7): staging, cutover, close, release and the alarm cutover. -/

namespace Sys2Proof.Machine

/-- Whether a schedule is valid: 1 to 4 tiers, its used thresholds at least 1 and strictly increasing (R121). -/
def scheduleValid (sc : Schedule) : Bool :=
  decide (1 ≤ sc.tiers) && decide (sc.tiers ≤ 4) &&
  (decide (sc.tiers < 2) || decide (1 ≤ sc.t1)) &&
  (decide (sc.tiers < 3) || decide (sc.t1 < sc.t2)) &&
  (decide (sc.tiers < 4) || decide (sc.t2 < sc.t3))

/-- A schedule with its unused thresholds and rates stored as 0 (R121). -/
def normalSchedule (sc : Schedule) : Schedule :=
  { sc with
    t1 := if sc.tiers < 2 then 0 else sc.t1
    t2 := if sc.tiers < 3 then 0 else sc.t2
    t3 := if sc.tiers < 4 then 0 else sc.t3
    c2 := if sc.tiers < 2 then 0 else sc.c2
    c3 := if sc.tiers < 3 then 0 else sc.c3
    c4 := if sc.tiers < 4 then 0 else sc.c4 }

/-- The staged schedule of a selector replaced and its flag set (R122). -/
def stage (r : Records) (sc : Schedule) : Select → Records
  | .a => { r with stagedA := sc, stagedAValid := true }
  | .b => { r with stagedB := sc, stagedBValid := true }

/-- SCHEDULE_STAGE inside its posting (R122). -/
def postScheduleStage (sel : Select) (sc : Schedule) (d : Draft) : Judged :=
  if scheduleValid sc then
    ((d.mapRecords (fun r => stage r (normalSchedule sc) sel)).commit, answer .ok (field 1 (selectCode sel)))
  else (d, refuse .scheduleInvalid)

/-- The period after a period (R118). -/
def nextPeriod (p : Nat) : Nat := (p + 1) % 8

/-- The entries with the schedule select of a merchant captured when its record is not UNENROLLED (R124). -/
def captureOne (entries : Table Entry) (x : Nat × Merchant) : Table Entry :=
  match x.2.state with
  | .unenrolled => entries
  | .enrolled =>
      tablePut zeroEntry entries x.1 { tableGet zeroEntry entries x.1 with captured := some x.2.settings.select }
  | .suspended =>
      tablePut zeroEntry entries x.1 { tableGet zeroEntry entries x.1 with captured := some x.2.settings.select }
  | .withdrawn =>
      tablePut zeroEntry entries x.1 { tableGet zeroEntry entries x.1 with captured := some x.2.settings.select }

/-- The open bank as a cutover closes it (R124). -/
def closedBank (r : Records) (now : Nat) : Bank :=
  { r.openBank with
    state := .computing
    closedAt := some now
    closedOutstanding := some r.totals.outstanding
    nextMerchant := some 0
    entries := r.merchants.foldl captureOne r.openBank.entries }

/-- The bank a cutover opens: zero entries, the staged schedules where they are valid (R125). -/
def freshBank (r : Records) (now : Nat) : Bank :=
  { period := nextPeriod r.totals.openPeriod, state := .opened, openedAt := now, closedAt := none,
    openingOutstanding := r.totals.outstanding, closedOutstanding := none, retiredInPeriod := 0,
    scheduleA := if r.stagedAValid then r.stagedA else r.openBank.scheduleA,
    scheduleB := if r.stagedBValid then r.stagedB else r.openBank.scheduleB,
    saturated := false, nextMerchant := none, entries := [] }

/-- The records after a cutover (R124, R125). -/
def cutoverRecords (r : Records) (now : Nat) : Records :=
  { r with
    closingBank := closedBank r now
    openBank := freshBank r now
    stagedAValid := false
    stagedBValid := false
    totals := { r.totals with openPeriod := nextPeriod r.totals.openPeriod } }

/-- A cutover inside a posting (R124, R125): the Qualification List is emptied, alarm-pending is cleared as it stands at
the grant, CLOSE_DONE is set. Against zero entries no merchant condition is live, so the evaluation of R152 does nothing
more. -/
def Draft.cutover (d : Draft) : Draft :=
  { d.mapRecords (fun r => cutoverRecords r d.now) with
    qual := [], clearsAlarm := true, events := d.events ||| eventBit .closeDone }

/-- PERIOD_CLOSE inside its posting (R126). -/
def postPeriodClose (d : Draft) : Judged :=
  let b := d.records.closingBank
  if b.state = .absent then
    (d.cutover.commit,
      answer .ok (field 1 d.records.totals.openPeriod ++ field 1 (nextPeriod d.records.totals.openPeriod) ++
        field 4 d.now ++ posField d.records.totals.outstanding))
  else (d, answer .statementPending (field 1 b.period ++ field 1 (bankStateCode b.state)))

/-- Whether a release of period `q` returns a merchant to UNENROLLED (R112). -/
def isReturned (q : Nat) (x : Merchant) : Bool := decide (x.state = .withdrawn) && decide (x.withdrawnIn = some q)

/-- The numbers of the merchants a release of period `q` returns (R112). -/
def returnedMerchants (r : Records) (q : Nat) : List Nat :=
  (r.merchants.filter (fun e => isReturned q e.2)).map (fun e => e.1)

/-- A merchant returned to UNENROLLED: its record and its open entry are reset and its Qualification List entry, if any,
is removed (R112). -/
def Draft.returnMerchant (d : Draft) (m : Nat) : Draft :=
  let d1 := (d.putMerchant m
    { unenrolledMerchant with openHolds := (merchantOf d.records m).openHolds }).putEntry m zeroEntry
  { d1 with qual := eraseQual d1.qual m }

/-- The closing bank released (R136 step 1). -/
def releaseBank (r : Records) : Records := { r with closingBank := absentBank r.closingBank.period }

/-- The deferred cutover of a release (R136 step 3). -/
def Draft.deferredCutover (d : Draft) : Draft :=
  if d.records.totals.closeDeferred then
    (d.mapRecords (fun r => { r with totals := { r.totals with closeDeferred := false } })).cutover
  else d

/-- The changes of an approved release, in their order (R136). -/
def releasePeriod (d : Draft) (q : Nat) : Draft :=
  ((returnedMerchants d.records q).foldl Draft.returnMerchant (d.mapRecords releaseBank)).deferredCutover.commit

/-- STATEMENTS_RELEASE inside its posting (R135, R136). -/
def postStatementsRelease (q : Nat) (d : Draft) : Judged :=
  let b := d.records.closingBank
  match b.state with
  | .absent => (d, refuse .noStatement)
  | .computing => (d, refuse .notReady)
  | .opened => (d, refuse .noStatement)
  | .ready =>
      if b.period ≠ q then (d, answer .wrongPeriod (field 1 b.period))
      else
        (releasePeriod d q,
          answer .ok (field 1 q ++ field 2 (returnedMerchants d.records q).length ++
            flagField d.records.totals.closeDeferred ++
            field 1 (releasePeriod d q).records.totals.openPeriod))

/-- An alarm cutover posting (R129): alarm-pending is cleared as it stands at the grant; the posting cuts over, or sets
close-deferred. -/
def postAlarmCutover (d : Draft) : Draft :=
  if d.records.closingBank.state = .absent then d.cutover.commit
  else
    { ((d.mapRecords (fun r => { r with totals := { r.totals with closeDeferred := true } })).raise
        .closeDeferred).commit with clearsAlarm := true }

end Sys2Proof.Machine
end

