-- ==== Sys2Proof/Machine/Statements.lean ====
section
/-! DEFINITION. Statement Arithmetic (chapter 8) and the statement step (R132). -/

namespace Sys2Proof.Machine

/-- The threshold above tier `i` of a schedule, for `i` from 1 to 3 (R121). -/
def threshold (sc : Schedule) : Nat → Nat
  | 1 => sc.t1
  | 2 => sc.t2
  | _ => sc.t3

/-- min(B, T_i): T_0 is 0 and the upper edge of the last used tier is unbounded (R140). -/
def tierEdge (sc : Schedule) (base : Int) (i : Nat) : Int :=
  if i = 0 then 0 else if sc.tiers ≤ i then base else min base (threshold sc i)

/-- The portion of the base in tier `i` (R140); 0 for a tier beyond the tier count. -/
def tierPortion (sc : Schedule) (base : Int) (i : Nat) : Int := tierEdge sc base i - tierEdge sc base (i - 1)

/-- The commission sum, exact (R141). -/
def commissionSum (sc : Schedule) (base : Int) : Int :=
  tierPortion sc base 1 * sc.c1 + tierPortion sc base 2 * sc.c2 + tierPortion sc base 3 * sc.c3 +
  tierPortion sc base 4 * sc.c4

/-- A product with a rate word divided once, rounding half up (R4). -/
def rateShare (x : Int) : Int := (x + 32768) / 65536

/-- One step of the net: a saturating addition, with whether any step saturated so far (R143, R145). -/
def netStep (acc : Int × Bool) (x : Int) : Int × Bool := (satPos (acc.1 + x), acc.2 || overflows (acc.1 + x))

/-- The net of the six terms in their order, and whether a step saturated (R143, R145). -/
def netOf (e : Entry) (commission allowance : Int) : Int × Bool :=
  [e.r - e.f, -commission, -e.s, allowance, e.k, -e.dIn].foldl netStep (0, false)

/-- The statement of a closing entry under a schedule (R139 to R145). -/
def computeStatement (sc : Schedule) (e : Entry) : Statement :=
  let base := max (e.r - e.f) 0
  let commission := rateShare (commissionSum sc base)
  let allowance := rateShare (e.s * sc.allowance)
  let net := netOf e commission allowance
  { base := base, commission := commission, allowance := allowance, net := net.1, payout := max net.1 0,
    dOut := max (-net.1) 0, saturated := net.2 }

/-- The lowest merchant above `m` whose statement is due, or 512 (R132). Entries stand in rising order. -/
def nextDue (entries : Table Entry) (m : Nat) : Nat :=
  match entries.find? (fun e => decide (m < e.1) && e.2.captured.isSome) with
  | some e => e.1
  | none => Config.nMerchants

/-- The closing bank after the statement of `m` has been written into it (R132, R145, R146). -/
def statementBank (b : Bank) (m : Nat) (st : Statement) : Bank :=
  let next := nextDue b.entries m
  { b with
    entries := tablePut zeroEntry b.entries m { tableGet zeroEntry b.entries m with statement := some st }
    saturated := b.saturated || st.saturated
    nextMerchant := some next
    state := if next = Config.nMerchants then .ready else b.state }

/-- STATEMENTS_READY when the closing bank becomes READY (R132). -/
def Draft.readyEvent (d : Draft) (m : Nat) : Draft :=
  if nextDue d.records.closingBank.entries m = Config.nMerchants then d.raise .statementsReady else d

/-- A merchant whose entry is not due is passed over (R132); a step's merchant is always due in a run (entry 26). -/
def skipStatement (d : Draft) (m : Nat) : Draft :=
  (d.readyEvent m).mapRecords (fun r =>
    { r with closingBank :=
      { r.closingBank with
        nextMerchant := some (nextDue r.closingBank.entries m)
        state := if nextDue r.closingBank.entries m = Config.nMerchants then .ready else r.closingBank.state } })

/-- The changes of a statement step once the statement is computed (R132, R146, R147). -/
def stepChanges (d : Draft) (m : Nat) (st : Statement) : Draft :=
  (((d.readyEvent m).mapRecords (fun r => { r with closingBank := statementBank r.closingBank m st })).putEntry m
    { openEntry d.records m with dIn := st.dOut }).evalDeficit m

/-- A statement step for merchant `m` (R132, R138). -/
def postStatementStep (m : Nat) (d : Draft) : Draft :=
  let e := closingEntry d.records m
  match e.captured with
  | none => skipStatement d m
  | some sel => stepChanges d m (computeStatement (bankSchedule d.records.closingBank sel) e)

end Sys2Proof.Machine
end

