-- ==== Sys2Proof/Machine/Events.lean ====
section
/-! DEFINITION. The rows that are no request: the pins, the seconds of the clock, the supply, the internal postings and the
end of a posting. A row whose step cannot come about in a state leaves that state as it is (entry 1). -/

namespace Sys2Proof.Machine

/-! Frames (R184, R185, R189) -/

/-- nSEL falls: a frame begins when the device runs (R184); otherwise only the pin moves (R178, R189). -/
def selFall (s : State) : State :=
  if s.nSelLow then s
  else
    let s1 := { s with nSelLow := true }
    if running s then beginFrame s1 else s1

/-- nSEL rises: a frame that began while the device ran ends (R185); one that did not is ignored as a whole (R189). -/
def selRise (sdi : List Bool) (s : State) : State :=
  if s.nSelLow then
    let s1 := { s with nSelLow := false }
    if running s && s.port.frame.isSome then endFrame s1 sdi else s1
  else s

/-! Time (R8) -/

/-- The divider ends a second: the value rises by 1 while the clock is SET and below its maximum (R8). -/
def tickClock (s : State) : State :=
  if s.powered && s.clock.dividerRunning && decide (s.clock.state = .set) && decide (s.clock.value < Config.maxTime) then
    advance s (s.clock.value + 1)
  else s

/-! Internal postings (R69, R129, R132, R158) -/

/-- The grant of the Expiry Unit's waiting request (R69). -/
def expiryGrant (s : State) : State :=
  match s.expiryWaiting with
  | none => s
  | some id => grantInternal s .expiry (.hold id) (postExpiry id)

/-- The grant of the next statement step (R132). -/
def stepGrant (s : State) : State :=
  match s.records.closingBank.nextMerchant with
  | none => s
  | some m => grantInternal s .settlement (.step m) (postStatementStep m)

/-- The grant of the latch posting of the due head of the Qualification List (R158). -/
def latchGrant (s : State) : State :=
  match latchDue s with
  | none => s
  | some q => grantInternal s .settlement (.latch q.merchant) (postLatch q.merchant)

/-! nRESET (R13, R94, R169, R179, R189) -/

/-- What the fall of nRESET takes once no posting is in flight: the ACCEPTED slots, the frame and the flags of the port,
the events and device flags, the internal candidates, and the supply state with its guard timer. -/
def resetVolatile (s : State) : State :=
  { s with
    nResetLow := true
    port := { s.port with
      accepted := [], offered := none, lastRejected := false, lastNotTaken := false, frame := none }
    posting := none
    expiryWaiting := none
    alarmPending := false
    qual := []
    events := 0#8
    dirHigh := clearFlag
    holdsHigh := clearFlag
    supplyLow := clearFlag
    supply := none
    guard := none }

/-- nRESET falls: a posting in flight ends first (R81, R189; entry 24). At that end the supply state is still the one before
the fall, so a Posting-class slot that the end makes eligible while PARKED is answered PARKED, and its response is kept
(R93; DEDUCED, entry 37). -/
def resetFall (s : State) : State :=
  if s.nResetLow then s
  else if s.powered then resetVolatile (endPosting s)
  else { s with nResetLow := true }

/-- CLOCK_NEEDED held clear by a power-up under nRESET is set at the release (R178). -/
def raiseHeld (s : State) : State :=
  if s.clockNeededHeld then { s.raise .clockNeeded with clockNeededHeld := false } else s

/-- nRESET is released: the arbiter restarts (R88), the supply is evaluated afresh (R179), the tables are evaluated (R169)
and the Expiry Unit makes its test (R68). -/
def resetRelease (s : State) : State :=
  if s.nResetLow then
    let s1 := { s with nResetLow := false }
    if s.powered then
      expiryTest (evalTables (firstEvaluation (raiseHeld { s1 with lastKind := .settlement, posting := none })))
    else s1
  else s

/-! Power (R177, R178) -/

/-- The volatile state at power-up: every block at its power-up state, no event set yet (R13, R68, R88, R95, R169, R183). -/
def volatileAtPowerUp (s : State) : State :=
  { s with
    clock := clockAtPowerUp
    port := portAtPowerUp s.port.nextPlace
    lastKind := .settlement
    posting := none
    expiryWaiting := none
    alarmPending := false
    qual := []
    events := 0#8
    dirHigh := clearFlag
    holdsHigh := clearFlag
    supplyLow := clearFlag
    supply := none
    guard := none
    clockNeededHeld := false }

/-- Power-up: with the supply above the start level and VHOLD charged the device starts. While nRESET is low the first
evaluation and CLOCK_NEEDED wait for its release (R178). -/
def powerOn (s : State) : State :=
  if !s.powered && s.vhold && decide (startMv < s.reading.vdd) then
    let s1 := { volatileAtPowerUp s with powered := true }
    if s.nResetLow then { s1 with clockNeededHeld := true }
    else evalTables (firstEvaluation (s1.raise .clockNeeded))
  else s

/-- A supply below the stop level stops the device: the posting in flight ends on VHOLD and all volatile state is lost
(R177; entry 24). -/
def stopDevice (s : State) : State :=
  if s.powered && decide (s.reading.vdd < stopMv) then { volatileAtPowerUp (endPosting s) with powered := false } else s

/-! The supply state (R171) -/

/-- A fall below the warning level leaves NORMAL (R171, R172). -/
def supplyFall (s : State) : State :=
  if running s && decide (s.supply = some .normal) && belowWarning s then enterLow s else s

/-- A rise above the recovery level returns to NORMAL from LOW or PARKED (R171, R175). -/
def supplyRise (s : State) : State :=
  if running s && decide (s.supply = some .low ∨ s.supply = some .parked) && aboveRecovery s then enterNormal s else s

/-- The guard timer has run out: G milliseconds have passed since its start (R171). -/
def guardOut (s : State) : Bool :=
  match s.guard with
  | none => false
  | some g => decide (g.startedAt + g.span ≤ s.reading.ms)

/-- The guard timer runs out in LOW: the device parks (R171, R174). -/
def guardRunsOut (s : State) : State :=
  if running s && decide (s.supply = some .low) && guardOut s then enterParked s else s

/-! The rows. A read still to be served comes first (`readsServed`; R86, entry 25). -/

/-- NSEL_FALL (R184). -/
def execNselFall (s : State) : Host.Outcome State Fault Refusal := .next (selFall (readsServed s))

/-- NSEL_RISE (R185). -/
def execNselRise (sdi : List Bool) (s : State) : Host.Outcome State Fault Refusal := .next (selRise sdi (readsServed s))

/-- TICK (R8). -/
def execTick (s : State) : Host.Outcome State Fault Refusal := .next (tickClock (readsServed s))

/-- EXPIRY_POSTING (R69). -/
def execExpiryPosting (s : State) : Host.Outcome State Fault Refusal := .next (expiryGrant (readsServed s))

/-- ALARM_CUTOVER (R129). -/
def execAlarmCutover (s : State) : Host.Outcome State Fault Refusal :=
  .next (grantInternal (readsServed s) .settlement .alarm postAlarmCutover)

/-- STATEMENT_STEP (R132). -/
def execStatementStep (s : State) : Host.Outcome State Fault Refusal := .next (stepGrant (readsServed s))

/-- LATCH_POSTING (R158). -/
def execLatchPosting (s : State) : Host.Outcome State Fault Refusal := .next (latchGrant (readsServed s))

/-- NRESET_FALL (R189). -/
def execNresetFall (s : State) : Host.Outcome State Fault Refusal := .next (resetFall (readsServed s))

/-- NRESET_RELEASE (R179). -/
def execNresetRelease (r : SupplyReading) (s : State) : Host.Outcome State Fault Refusal :=
  .next (resetRelease (measure (readsServed s) r))

/-- POWER_UP (R178). -/
def execPowerUp (r : SupplyReading) (charged : Bool) (s : State) : Host.Outcome State Fault Refusal :=
  .next (powerOn { measure (readsServed s) r with vhold := charged })

/-- SUPPLY_STOP (R177). -/
def execSupplyStop (r : SupplyReading) (s : State) : Host.Outcome State Fault Refusal :=
  .next (stopDevice (measure (readsServed s) r))

/-- SUPPLY_BELOW_WARNING (R171). -/
def execSupplyBelowWarning (r : SupplyReading) (s : State) : Host.Outcome State Fault Refusal :=
  .next (supplyFall (measure (readsServed s) r))

/-- SUPPLY_ABOVE_RECOVERY (R171). -/
def execSupplyAboveRecovery (r : SupplyReading) (s : State) : Host.Outcome State Fault Refusal :=
  .next (supplyRise (measure (readsServed s) r))

/-- GUARD_TIMER_RUNS_OUT (R171). -/
def execGuardTimerRunsOut (r : SupplyReading) (s : State) : Host.Outcome State Fault Refusal :=
  .next (guardRunsOut (measure (readsServed s) r))

/-- POSTING_END (R80, R81). -/
def execPostingEnd (r : SupplyReading) (s : State) : Host.Outcome State Fault Refusal :=
  .next (endPosting (measure (readsServed s) r))

end Sys2Proof.Machine
end

