-- ==== Sys2Proof/Machine/Queries.lean ====
section
/-! DEFINITION. The rows that are reads: each is the serving of the oldest eligible read when that is this request (R83,
R86; entry 1). Where another read is the oldest eligible one, the step serves that one (`readsServed`; R86, entry 25). -/

namespace Sys2Proof.Machine

/-- A reader of the records, as what serving a read that changes nothing does. -/
def reading (f : State → Answer) (s : State) : State × Answer := (s, f s)

/-- CARD_INQUIRE (R48). -/
def execCardInquire (serial page : Nat) (s : State) : Host.Outcome State Fault Refusal :=
  .next (serveRow s (.cardInquire serial page) (reading (readCardInquire serial page)))

/-- HOLD_INQUIRE (R76). -/
def execHoldInquire (hold page : Nat) (s : State) : Host.Outcome State Fault Refusal :=
  .next (serveRow s (.holdInquire hold page) (reading (readHoldInquire hold page)))

/-- MERCHANT_INQUIRE (R113). -/
def execMerchantInquire (merchant page : Nat) (s : State) : Host.Outcome State Fault Refusal :=
  .next (serveRow s (.merchantInquire merchant page) (reading (readMerchantInquire merchant page)))

/-- SCHEDULE_READ (R123). -/
def execScheduleRead (selector : Select) (source : ScheduleSource) (s : State) : Host.Outcome State Fault Refusal :=
  .next (serveRow s (.scheduleRead selector source) (reading (readScheduleOf selector source)))

/-- STATEMENT_READ (R134). -/
def execStatementRead (merchant page : Nat) (s : State) : Host.Outcome State Fault Refusal :=
  .next (serveRow s (.statementRead merchant page) (reading (readStatement merchant page)))

/-- TOTALS_READ (R95). -/
def execTotalsRead (page : Nat) (s : State) : Host.Outcome State Fault Refusal :=
  .next (serveRow s (.totalsRead page) (reading (readTotals page)))

/-- CONDITION_SCAN (R163). -/
def execConditionScan (kind : ScanKind) (start : Nat) (s : State) : Host.Outcome State Fault Refusal :=
  .next (serveRow s (.conditionScan kind start) (reading (readScan kind start)))

/-- EVENTS_READ (R166). -/
def execEventsRead (s : State) : Host.Outcome State Fault Refusal :=
  .next (serveRow s .eventsRead (reading readEvents))

/-- EVENTS_CLEAR (R167). -/
def execEventsClear (flags : BitVec 8) (s : State) : Host.Outcome State Fault Refusal :=
  .next (serveRow s (.eventsClear flags) (serveEventsClear flags))

/-- CLOCK_SET (R10). -/
def execClockSet (value : Nat) (s : State) : Host.Outcome State Fault Refusal :=
  .next (serveRow s (.clockSet value) (serveClockSet value))

/-- CLOCK_READ (R11). -/
def execClockRead (s : State) : Host.Outcome State Fault Refusal :=
  .next (serveRow s .clockRead (reading readClock))

/-- LIMITS_READ (R193). -/
def execLimitsRead (group : LimitsGroup) (s : State) : Host.Outcome State Fault Refusal :=
  .next (serveRow s (.limitsRead group) (reading (readLimits group)))

end Sys2Proof.Machine
end

