-- ==== Sys2Proof/Machine/LimitsSet.lean ====
section
/-! DEFINITION. LIMITS_SET (R193): the range checks of each group and the replacement of its settings. -/

namespace Sys2Proof.Machine

/-- The ranges of the VALUE group (R31, R58). -/
def valueInRange (l : ValueLimits) : Bool :=
  decide (1 ≤ l.cap) && decide (l.cap ≤ 100000000) && decide (1 ≤ l.holdMin) && decide (l.holdMin ≤ l.holdMax) &&
  decide (l.holdMax ≤ 2592000)

/-- The ranges of the MONITOR group (R26, R74, R75, R77, R151). -/
def monitorInRange (l : MonitorLimits) : Bool :=
  decide (l.ratio ≤ 65535) && decide (l.refundFloor ≤ 1099511627775) && decide (l.qualTime ≤ 86400) &&
  decide (l.deficitLimit ≤ 1099511627775) && decide (1 ≤ l.velocityLimit) && decide (l.velocityLimit ≤ 254) &&
  decide (1 ≤ l.velocityWindow) && decide (l.velocityWindow ≤ 86400) && decide (1 ≤ l.dirWatermark) &&
  decide (l.dirWatermark ≤ 32768) && decide (1 ≤ l.holdWatermark) && decide (l.holdWatermark ≤ 4096)

/-- The ranges of the DEVICE group (R127, R170). -/
def deviceInRange (l : DeviceLimits) : Bool :=
  decide (1 ≤ l.guardTime) && decide (l.guardTime ≤ 255) && decide (l.alarmTime ≤ 86399)

/-- The limits record replaced, with the floor written (R193). -/
def Draft.putLimits (d : Draft) (l : Limits) : Draft := (d.mapRecords (fun r => { r with limits := l })).commit

/-- LIMITS_SET of the VALUE group inside its posting (R58, R193). -/
def postLimitsValue (l : ValueLimits) (d : Draft) : Judged :=
  if valueInRange l then
    let l1 := { d.records.limits with value := l }
    (d.putLimits l1, answer .ok (limitsBody l1 .value))
  else (d, refuse .badParameter)

/-- A changed watermark re-evaluates its device class (R154). -/
def Draft.evalWatermarks (d : Draft) (old : MonitorLimits) : Draft :=
  let d1 := if old.dirWatermark = d.records.limits.monitor.dirWatermark then d else d.evalDirHigh
  if old.holdWatermark = d1.records.limits.monitor.holdWatermark then d1 else d1.evalHoldsHigh

/-- LIMITS_SET of the MONITOR group inside its posting (R151, R154, R193). -/
def postLimitsMonitor (l : MonitorLimits) (d : Draft) : Judged :=
  if monitorInRange l then
    let l1 := { d.records.limits with monitor := l }
    ((d.putLimits l1).evalWatermarks d.records.limits.monitor, answer .ok (limitsBody l1 .monitor))
  else (d, refuse .badParameter)

/-- Whether a DEVICE group changes the warning level or G (R176). -/
def changesLevels (old l : DeviceLimits) : Bool :=
  decide (old.warning ≠ l.warning) || decide (old.guardTime ≠ l.guardTime)

/-- LIMITS_SET of the DEVICE group inside its posting (R176, R193). -/
def postLimitsDevice (l : DeviceLimits) (d : Draft) : Judged :=
  if deviceInRange l then
    let l1 := { d.records.limits with device := l }
    ({ d.putLimits l1 with
        finish := if changesLevels d.records.limits.device l then .supplyLevels else d.finish },
      answer .ok (limitsBody l1 .device))
  else (d, refuse .badParameter)

end Sys2Proof.Machine
end

