-- ==== Sys2Proof/Machine/Merchants.lean ====
section
/-! DEFINITION. Merchants (chapter 6): the judgement and changes of the merchant postings. -/

namespace Sys2Proof.Machine

/-- MERCHANT_ENROL inside its posting (R104, R105). -/
def postMerchantEnrol (m : Nat) (st : Settings) (d : Draft) : Judged :=
  let x := merchantOf d.records m
  match x.state with
  | .unenrolled =>
      let d1 := (d.putMerchant m { x with state := .enrolled, settings := st }).commit
      (d1, answer .ok (merchantPage0 d1.records m))
  | .enrolled => (d, refuseMerchant m .alreadyEnrolled)
  | .suspended => (d, refuseMerchant m .alreadyEnrolled)
  | .withdrawn => (d, refuseMerchant m .alreadyEnrolled)

/-- A merchant record with all five settings replaced (R106). -/
def updateChanges (d : Draft) (m : Nat) (st : Settings) : Draft :=
  (d.putMerchant m { merchantOf d.records m with settings := st }).commit

/-- MERCHANT_UPDATE inside its posting (R106). -/
def postMerchantUpdate (m : Nat) (st : Settings) (d : Draft) : Judged :=
  match (merchantOf d.records m).state with
  | .unenrolled => (d, refuseMerchant m .notEnrolled)
  | .withdrawn => (d, refuseMerchant m .notEnrolled)
  | .enrolled => (updateChanges d m st, answer .ok (merchantPage0 (updateChanges d m st).records m))
  | .suspended => (updateChanges d m st, answer .ok (merchantPage0 (updateChanges d m st).records m))

/-- Merchant number and state, the fields of MERCHANT_SUSPEND and MERCHANT_RESUME (R192). -/
def merchantStateBody (m : Nat) (st : MerchantState) : Body := field 2 m ++ field 1 (merchantStateCode st)

/-- A merchant record moved to a state by the host, with the floor written (R107, R108). -/
def moveMerchant (d : Draft) (m : Nat) (st : MerchantState) : Draft :=
  (d.putMerchant m { merchantOf d.records m with state := st }).commit

/-- MERCHANT_SUSPEND inside its posting (R107). Its refusal carries the merchant number and 0 in the state byte, by R191's
list against R107's `the response carries the state` (DEDUCED, entry 38). -/
def postMerchantSuspend (m : Nat) (d : Draft) : Judged :=
  match (merchantOf d.records m).state with
  | .enrolled => (moveMerchant d m .suspended, answer .ok (merchantStateBody m .suspended))
  | .suspended => (d, answer .ok (merchantStateBody m .suspended))
  | .unenrolled => (d, refuseMerchant m .notEnrolled)
  | .withdrawn => (d, refuseMerchant m .notEnrolled)

/-- MERCHANT_RESUME inside its posting (R108). Its refusal carries the merchant number and 0 in the state byte, by R191's
list against R108's `the response carries the state` (DEDUCED, entry 38). -/
def postMerchantResume (m : Nat) (d : Draft) : Judged :=
  match (merchantOf d.records m).state with
  | .suspended => (moveMerchant d m .enrolled, answer .ok (merchantStateBody m .enrolled))
  | .enrolled => (d, answer .ok (merchantStateBody m .enrolled))
  | .unenrolled => (d, refuseMerchant m .notEnrolled)
  | .withdrawn => (d, refuseMerchant m .notEnrolled)

/-- The changes of an approved withdrawal (R110). -/
def withdrawChanges (d : Draft) (m : Nat) : Draft :=
  (d.putMerchant m
    { merchantOf d.records m with
      state := .withdrawn, withdrawnIn := some d.records.totals.openPeriod }).commit

/-- A withdrawal of a merchant that is ENROLLED or SUSPENDED (R109 check 2, R110). Its refusal carries the merchant number
(R115; entry 12) and the open holds, and the period field is 0. -/
def withdrawTrading (m : Nat) (d : Draft) : Judged :=
  let n := (merchantOf d.records m).openHolds
  if n ≠ 0 then (d, answer .holdsOpen (field 2 m ++ field 1 0 ++ field 2 n))
  else (withdrawChanges d m, answer .ok (field 2 m ++ field 1 d.records.totals.openPeriod ++ field 2 0))

/-- MERCHANT_WITHDRAW inside its posting (R109, R110). -/
def postMerchantWithdraw (m : Nat) (d : Draft) : Judged :=
  match (merchantOf d.records m).state with
  | .enrolled => withdrawTrading m d
  | .suspended => withdrawTrading m d
  | .unenrolled => (d, refuseMerchant m .notEnrolled)
  | .withdrawn => (d, refuseMerchant m .notEnrolled)

end Sys2Proof.Machine
end

