-- ==== Sys2Proof/Machine/Requests.lean ====
section
/-! DEFINITION. The rows that are requests of the Posting class: each is the arbiter's grant of the Link candidate when that
is this request, with the judgement of its posting (R82, R83, R90; entry 1). A read still to be served comes first
(`readsServed`; R86, entry 25). -/

namespace Sys2Proof.Machine

/-- CARD_ISSUE (R33, R34). -/
def execCardIssue (serial merchant amount validity : Nat) (s : State) : Host.Outcome State Fault Refusal :=
  .next (grantLink (readsServed s) (.cardIssue serial merchant amount validity)
    (postCardIssue serial merchant amount validity))

/-- CARD_RELOAD (R35). -/
def execCardReload (serial merchant amount : Nat) (s : State) : Host.Outcome State Fault Refusal :=
  .next (grantLink (readsServed s) (.cardReload serial merchant amount)
    (postCardReload serial merchant amount))

/-- CARD_LOCK (R36). -/
def execCardLock (serial : Nat) (s : State) : Host.Outcome State Fault Refusal :=
  .next (grantLink (readsServed s) (.cardLock serial) (postCardLock serial))

/-- CARD_UNLOCK (R37). -/
def execCardUnlock (serial : Nat) (s : State) : Host.Outcome State Fault Refusal :=
  .next (grantLink (readsServed s) (.cardUnlock serial) (postCardUnlock serial))

/-- CARD_RETIRE (R39, R41). -/
def execCardRetire (serial : Nat) (reason : RetireReason) (s : State) : Host.Outcome State Fault Refusal :=
  .next (grantLink (readsServed s) (.cardRetire serial reason) (postCardRetire serial reason))

/-- CARD_TRANSFER (R43, R44). -/
def execCardTransfer (source target : Nat) (s : State) : Host.Outcome State Fault Refusal :=
  .next (grantLink (readsServed s) (.cardTransfer source target) (postCardTransfer source target))

/-- CARD_PURGE (R46). -/
def execCardPurge (serial : Nat) (s : State) : Host.Outcome State Fault Refusal :=
  .next (grantLink (readsServed s) (.cardPurge serial) (postCardPurge serial))

/-- REDEEM (R55, R56). -/
def execRedeem (serial merchant amount : Nat) (s : State) : Host.Outcome State Fault Refusal :=
  .next (grantLink (readsServed s) (.redeem serial merchant amount) (postRedeem serial merchant amount))

/-- HOLD_PLACE (R57 to R59). -/
def execHoldPlace (serial merchant amount lifetime : Nat) (s : State) : Host.Outcome State Fault Refusal :=
  .next (grantLink (readsServed s) (.holdPlace serial merchant amount lifetime)
    (postHoldPlace serial merchant amount lifetime))

/-- HOLD_COMPLETE (R60 to R65). -/
def execHoldComplete (hold merchant amount : Nat) (s : State) : Host.Outcome State Fault Refusal :=
  .next (grantLink (readsServed s) (.holdComplete hold merchant amount) (postHoldComplete hold merchant amount))

/-- HOLD_VOID (R67). -/
def execHoldVoid (hold merchant : Nat) (s : State) : Host.Outcome State Fault Refusal :=
  .next (grantLink (readsServed s) (.holdVoid hold merchant) (postHoldVoid hold merchant))

/-- REFUND (R72, R73). -/
def execRefund (serial merchant amount : Nat) (s : State) : Host.Outcome State Fault Refusal :=
  .next (grantLink (readsServed s) (.refund serial merchant amount) (postRefund serial merchant amount))

/-- MERCHANT_ENROL (R104, R105). -/
def execMerchantEnrol (merchant : Nat) (settings : Settings) (s : State) : Host.Outcome State Fault Refusal :=
  .next (grantLink (readsServed s) (.merchantEnrol merchant settings) (postMerchantEnrol merchant settings))

/-- MERCHANT_UPDATE (R106). -/
def execMerchantUpdate (merchant : Nat) (settings : Settings) (s : State) : Host.Outcome State Fault Refusal :=
  .next (grantLink (readsServed s) (.merchantUpdate merchant settings) (postMerchantUpdate merchant settings))

/-- MERCHANT_SUSPEND (R107). -/
def execMerchantSuspend (merchant : Nat) (s : State) : Host.Outcome State Fault Refusal :=
  .next (grantLink (readsServed s) (.merchantSuspend merchant) (postMerchantSuspend merchant))

/-- MERCHANT_RESUME (R108). -/
def execMerchantResume (merchant : Nat) (s : State) : Host.Outcome State Fault Refusal :=
  .next (grantLink (readsServed s) (.merchantResume merchant) (postMerchantResume merchant))

/-- MERCHANT_WITHDRAW (R109, R110). -/
def execMerchantWithdraw (merchant : Nat) (s : State) : Host.Outcome State Fault Refusal :=
  .next (grantLink (readsServed s) (.merchantWithdraw merchant) (postMerchantWithdraw merchant))

/-- SCHEDULE_STAGE (R122). -/
def execScheduleStage (selector : Select) (schedule : Schedule) (s : State) : Host.Outcome State Fault Refusal :=
  .next (grantLink (readsServed s) (.scheduleStage selector schedule) (postScheduleStage selector schedule))

/-- PERIOD_CLOSE (R126). -/
def execPeriodClose (s : State) : Host.Outcome State Fault Refusal :=
  .next (grantLink (readsServed s) .periodClose postPeriodClose)

/-- STATEMENTS_RELEASE (R135, R136). -/
def execStatementsRelease (period : Nat) (s : State) : Host.Outcome State Fault Refusal :=
  .next (grantLink (readsServed s) (.statementsRelease period) (postStatementsRelease period))

/-- CONDITIONS_CLEAR of scope DEVICE (R160). -/
def execConditionsClearDevice (s : State) : Host.Outcome State Fault Refusal :=
  .next (grantLink (readsServed s) .conditionsClearDevice postClearDevice)

/-- CONDITIONS_CLEAR of scope MERCHANT (R160, R161). -/
def execConditionsClearMerchant (merchant : Nat) (s : State) : Host.Outcome State Fault Refusal :=
  .next (grantLink (readsServed s) (.conditionsClearMerchant merchant) (postClearMerchant merchant))

/-- CONDITIONS_CLEAR of scope ALL_MERCHANTS (R160, R161). -/
def execConditionsClearAllMerchants (s : State) : Host.Outcome State Fault Refusal :=
  .next (grantLink (readsServed s) .conditionsClearAllMerchants postClearAllMerchants)

/-- CONDITIONS_CLEAR of scope CARD (R160, R161). -/
def execConditionsClearCard (serial : Nat) (s : State) : Host.Outcome State Fault Refusal :=
  .next (grantLink (readsServed s) (.conditionsClearCard serial) (postClearCard serial))

/-- LIMITS_SET of the VALUE group (R193). -/
def execLimitsSetValue (limits : ValueLimits) (s : State) : Host.Outcome State Fault Refusal :=
  .next (grantLink (readsServed s) (.limitsSetValue limits) (postLimitsValue limits))

/-- LIMITS_SET of the MONITOR group (R193). -/
def execLimitsSetMonitor (limits : MonitorLimits) (s : State) : Host.Outcome State Fault Refusal :=
  .next (grantLink (readsServed s) (.limitsSetMonitor limits) (postLimitsMonitor limits))

/-- LIMITS_SET of the DEVICE group (R193). -/
def execLimitsSetDevice (limits : DeviceLimits) (s : State) : Host.Outcome State Fault Refusal :=
  .next (grantLink (readsServed s) (.limitsSetDevice limits) (postLimitsDevice limits))

end Sys2Proof.Machine
end

