-- ==== Sys2Proof/Machine/Dispatch.lean ====
section
/-! DEFINITION. One arm for each row of the table: its meaning. -/

namespace Sys2Proof.Machine

def exec (i : Instr) (s : State) : Host.Outcome State Fault Refusal :=
  match i with
  | .nselFall => Sys2Proof.Machine.execNselFall s
  | .nselRise sdi => Sys2Proof.Machine.execNselRise sdi s
  | .tick => Sys2Proof.Machine.execTick s
  | .expiryPosting => Sys2Proof.Machine.execExpiryPosting s
  | .alarmCutover => Sys2Proof.Machine.execAlarmCutover s
  | .statementStep => Sys2Proof.Machine.execStatementStep s
  | .latchPosting => Sys2Proof.Machine.execLatchPosting s
  | .nresetFall => Sys2Proof.Machine.execNresetFall s
  | .nresetRelease reading => Sys2Proof.Machine.execNresetRelease reading s
  | .powerUp reading vholdCharged => Sys2Proof.Machine.execPowerUp reading vholdCharged s
  | .supplyStop reading => Sys2Proof.Machine.execSupplyStop reading s
  | .supplyBelowWarning reading => Sys2Proof.Machine.execSupplyBelowWarning reading s
  | .supplyAboveRecovery reading => Sys2Proof.Machine.execSupplyAboveRecovery reading s
  | .guardTimerRunsOut reading => Sys2Proof.Machine.execGuardTimerRunsOut reading s
  | .cardIssue serial merchant amount validity => Sys2Proof.Machine.execCardIssue serial merchant amount validity s
  | .cardReload serial merchant amount => Sys2Proof.Machine.execCardReload serial merchant amount s
  | .cardInquire serial page => Sys2Proof.Machine.execCardInquire serial page s
  | .cardLock serial => Sys2Proof.Machine.execCardLock serial s
  | .cardUnlock serial => Sys2Proof.Machine.execCardUnlock serial s
  | .cardRetire serial reason => Sys2Proof.Machine.execCardRetire serial reason s
  | .cardTransfer source target => Sys2Proof.Machine.execCardTransfer source target s
  | .cardPurge serial => Sys2Proof.Machine.execCardPurge serial s
  | .redeem serial merchant amount => Sys2Proof.Machine.execRedeem serial merchant amount s
  | .holdPlace serial merchant amount lifetime => Sys2Proof.Machine.execHoldPlace serial merchant amount lifetime s
  | .holdComplete hold merchant amount => Sys2Proof.Machine.execHoldComplete hold merchant amount s
  | .holdVoid hold merchant => Sys2Proof.Machine.execHoldVoid hold merchant s
  | .holdInquire hold page => Sys2Proof.Machine.execHoldInquire hold page s
  | .refund serial merchant amount => Sys2Proof.Machine.execRefund serial merchant amount s
  | .merchantEnrol merchant settings => Sys2Proof.Machine.execMerchantEnrol merchant settings s
  | .merchantUpdate merchant settings => Sys2Proof.Machine.execMerchantUpdate merchant settings s
  | .merchantSuspend merchant => Sys2Proof.Machine.execMerchantSuspend merchant s
  | .merchantResume merchant => Sys2Proof.Machine.execMerchantResume merchant s
  | .merchantWithdraw merchant => Sys2Proof.Machine.execMerchantWithdraw merchant s
  | .merchantInquire merchant page => Sys2Proof.Machine.execMerchantInquire merchant page s
  | .scheduleStage selector schedule => Sys2Proof.Machine.execScheduleStage selector schedule s
  | .scheduleRead selector source => Sys2Proof.Machine.execScheduleRead selector source s
  | .periodClose => Sys2Proof.Machine.execPeriodClose s
  | .statementRead merchant page => Sys2Proof.Machine.execStatementRead merchant page s
  | .statementsRelease period => Sys2Proof.Machine.execStatementsRelease period s
  | .totalsRead page => Sys2Proof.Machine.execTotalsRead page s
  | .conditionsClearDevice => Sys2Proof.Machine.execConditionsClearDevice s
  | .conditionsClearMerchant merchant => Sys2Proof.Machine.execConditionsClearMerchant merchant s
  | .conditionsClearAllMerchants => Sys2Proof.Machine.execConditionsClearAllMerchants s
  | .conditionsClearCard serial => Sys2Proof.Machine.execConditionsClearCard serial s
  | .conditionScan kind start => Sys2Proof.Machine.execConditionScan kind start s
  | .eventsRead => Sys2Proof.Machine.execEventsRead s
  | .eventsClear flags => Sys2Proof.Machine.execEventsClear flags s
  | .clockSet value => Sys2Proof.Machine.execClockSet value s
  | .clockRead => Sys2Proof.Machine.execClockRead s
  | .limitsSetValue limits => Sys2Proof.Machine.execLimitsSetValue limits s
  | .limitsSetMonitor limits => Sys2Proof.Machine.execLimitsSetMonitor limits s
  | .limitsSetDevice limits => Sys2Proof.Machine.execLimitsSetDevice limits s
  | .limitsRead group => Sys2Proof.Machine.execLimitsRead group s
  | .postingEnd reading => Sys2Proof.Machine.execPostingEnd reading s

end Sys2Proof.Machine
end

