-- ==== Sys2Proof/Safety.lean ====
section
/-! DEFINITION. The words the claims are stated in: when a request is granted or a read is served, what a grant leaves in
flight, what a posting leaves unchanged, and the bounds and shapes the spec gives to what the device holds. -/

namespace Sys2Proof.Machine

/-! Grants -/

/-- No eligible read is still to be served (R86). Where one is, a step serves it first: ReadsAreServed says what it then
does. -/
abbrev NoReadWaits (s : State) : Prop := oldestRead s = none

/-- Link is granted now, its candidate is the slot `q`, and the request in `q` is `i` (R89, R90); no read comes before it
(R86). -/
abbrev Granted (s : State) (i : Instr) (q : Slot) : Prop :=
  arbiterChoice s = some .link ∧ linkCandidate s = some q ∧ requestOf q = some i ∧ NoReadWaits s

/-- The slot `q` is the oldest eligible read, and the read in it is `i` (R86). -/
abbrev Served (s : State) (i : Instr) (q : Slot) : Prop := oldestRead s = some q ∧ requestOf q = some i

/-- The answer of the slot `q` lets no other slot go on: none names a serial it names, none is a read that is eligible, and
none of the Posting class is eligible where no grant can be made, but for one whose posting is in flight (R85, R86, R92,
R93). -/
abbrev OthersWait (s : State) (q : Slot) : Prop :=
  ∀ x ∈ s.port.accepted, x.place ≠ q.place →
    shareSerial q x = false ∧
    (eligible s x = true → isReadSlot x = false ∧
      (isPostingSlot x = true → inFlight s x = true ∨ s.supply ≠ some .parked ∧ s.clock.state = .set))

/-- `s` with the posting of the slot `q` in flight, and nothing else changed: its now read at the grant, its change-set `d`
and the response `a` it will place (R82, R88, R90). -/
def underWay (s : State) (q : Slot) (d : Draft) (a : Answer) : State :=
  { s with
    lastKind := .link
    posting := some
      { kind := .link, item := .slot q.place, now := some s.clock.value, change := d, answer := some a,
        alarmFired := false } }

/-- `s` with an internal posting in flight, and nothing else changed (R88, R90). -/
def internalUnderWay (s : State) (k : Kind) (item : Item) (now : Option Nat) (d : Draft) : State :=
  { s with
    lastKind := k
    posting := some { kind := k, item := item, now := now, change := d, answer := none, alarmFired := false } }

/-- The change-set that replaces the records by `r` and changes nothing else. -/
def changed (s : State) (r : Records) : Draft := { startDraft s with records := r }

/-- The records of `s` with a card written and the floor at the clock's value, and nothing else changed. -/
def cardWritten (s : State) (j : Nat) (c : Card) : Records :=
  { s.records with
    cards := tableInsert s.records.cards j c
    totals := { s.records.totals with floor := s.clock.value } }

/-- The records of `s` with a merchant written and the floor at the clock's value, and nothing else changed. -/
def merchantWritten (s : State) (m : Nat) (x : Merchant) : Records :=
  { s.records with
    merchants := tablePut unenrolledMerchant s.records.merchants m x
    totals := { s.records.totals with floor := s.clock.value } }

/-! Requests as acceptance checks them -/

/-- The 34 request codes other than 00h (R190). -/
def requestCodes : List Nat :=
  [0x10, 0x11, 0x12, 0x13, 0x14, 0x15, 0x16, 0x17, 0x20, 0x21, 0x22, 0x23, 0x24, 0x25, 0x30, 0x31, 0x32, 0x33, 0x34, 0x35,
    0x40, 0x41, 0x42, 0x43, 0x44, 0x45, 0x50, 0x51, 0x52, 0x53, 0x60, 0x61, 0x62, 0x63]

/-- The byte at which the amount of a request begins that must be 1 or more (R1, R191). -/
def amountAt (code : Nat) : Option Nat :=
  if code ∈ [0x10, 0x11, 0x20, 0x21, 0x25] then some 12 else if code = 0x22 then some 6 else none

/-- The fields of a request that acceptance checks beside its amount, each as first byte, width, least and greatest value: the
identifiers (R6), the tolerance (R5), the enumerated fields and page selectors (R190), the withdrawal of merchant 0 (R109) and
the reason of a retirement (R39). A CONDITIONS_CLEAR, a CONDITION_SCAN and a LIMITS_SET are checked by their first field (R160,
R163, R193; entry 15). -/
def checkedFields (code : Nat) (ps : List Byte) : List (Nat × Nat × Nat × Nat) :=
  let serial := fun at' => (at', 8, 1, 18446744073709551615)
  let merchant := fun at' => (at', 2, 0, 511)
  let hold := (2, 2, 1, 65535)
  let code1 := fun at' last => (at', 1, 0, last)
  let first := param ps 2 1
  if code ∈ [0x10, 0x11, 0x20, 0x21, 0x25] then [serial 2, merchant 10]
  else if code ∈ [0x13, 0x14, 0x17] then [serial 2]
  else if code = 0x12 then [serial 2, code1 10 1]
  else if code = 0x15 then [serial 2, (10, 1, 1, 3)]
  else if code = 0x16 then [serial 2, serial 10]
  else if code ∈ [0x22, 0x23] then [hold, merchant 4]
  else if code = 0x24 then [hold, code1 4 1]
  else if code ∈ [0x30, 0x31] then [merchant 2, code1 4 1, code1 5 1, (6, 2, 0, 5000), code1 8 1, code1 9 1]
  else if code ∈ [0x32, 0x33] then [merchant 2]
  else if code = 0x34 then [(2, 2, 1, 511)]
  else if code = 0x35 then [merchant 2, code1 4 1]
  else if code = 0x40 then [code1 2 1]
  else if code = 0x41 then [code1 2 1, code1 3 2]
  else if code = 0x43 then [merchant 2, code1 4 2]
  else if code = 0x44 then [code1 2 7]
  else if code = 0x45 then [code1 2 3]
  else if code = 0x50 then code1 2 3 :: (if first = 1 then [merchant 3] else if first = 3 then [serial 5] else [])
  else if code = 0x51 then code1 2 1 :: (if first = 0 then [merchant 3] else [(3, 2, 0, 32767)])
  else if code = 0x62 then code1 2 2 :: (if first = 2 then [code1 3 3, code1 5 1] else [])
  else if code = 0x63 then [code1 2 2]
  else []

/-- Every field that acceptance checks, but for the amount, lies in its range (R186). -/
abbrev FieldsInRange (code : Nat) (ps : List Byte) : Prop :=
  ∀ f ∈ checkedFields code ps, f.2.2.1 ≤ param ps f.1 f.2.1 ∧ param ps f.1 f.2.1 ≤ f.2.2.2

/-! What a posting leaves unchanged -/

/-- Every card record outside `js` stands. -/
abbrev CardsKept (r r' : Records) (js : List Nat) : Prop := ∀ k, k ∉ js → tableFind r'.cards k = tableFind r.cards k

/-- Every open-bank entry outside `ms` stands. -/
abbrev EntriesKept (r r' : Records) (ms : List Nat) : Prop := ∀ k, k ∉ ms → openEntry r' k = openEntry r k

/-- Every merchant record outside `ms` stands; inside it state, settings and withdrawn-in-period stand. -/
abbrev MerchantsKept (r r' : Records) (ms : List Nat) : Prop :=
  (∀ k, k ∉ ms → merchantOf r' k = merchantOf r k) ∧
  (∀ k, (merchantOf r' k).state = (merchantOf r k).state ∧ (merchantOf r' k).settings = (merchantOf r k).settings ∧
    (merchantOf r' k).withdrawnIn = (merchantOf r k).withdrawnIn)

/-- Every merchant's open-hold count stands. -/
abbrev CountsKept (r r' : Records) : Prop := ∀ k, (merchantOf r' k).openHolds = (merchantOf r k).openHolds

/-- The directory and the occupancy count stand. -/
abbrev DirectoryKept (r r' : Records) : Prop := r'.directory = r.directory ∧ r'.occupancy = r.occupancy

/-- The Hold Table and the hold-id counter stand. -/
abbrev HoldsKept (r r' : Records) : Prop := r'.holds = r.holds ∧ r'.holdIdCounter = r.holdIdCounter

/-- The closing bank, the staged schedules, the limits, the open bank's header but for SATURATED and retired in period, and
the open period and close-deferred stand. -/
abbrev PeriodsKept (r r' : Records) : Prop :=
  r'.closingBank = r.closingBank ∧ r'.stagedA = r.stagedA ∧ r'.stagedB = r.stagedB ∧
  r'.stagedAValid = r.stagedAValid ∧ r'.stagedBValid = r.stagedBValid ∧ r'.limits = r.limits ∧
  r'.openBank =
    { r.openBank with
      entries := r'.openBank.entries
      saturated := r'.openBank.saturated
      retiredInPeriod := r'.openBank.retiredInPeriod } ∧
  r'.totals.openPeriod = r.totals.openPeriod ∧ r'.totals.closeDeferred = r.totals.closeDeferred

/-- Retired value and the open bank's retired in period stand. -/
abbrev RetiredKept (r r' : Records) : Prop :=
  r'.totals.retiredValue = r.totals.retiredValue ∧ r'.openBank.retiredInPeriod = r.openBank.retiredInPeriod

/-- The posting keeps the now read at its grant, withdraws no alarm and has nothing left for its end. -/
abbrev PlainDraft (s : State) (d : Draft) : Prop :=
  d.now = s.clock.value ∧ d.clearsAlarm = false ∧ d.finish = .plain

/-- Both device flags stand. -/
abbrev FlagsKept (s : State) (d : Draft) : Prop := d.dirHigh = s.dirHigh ∧ d.holdsHigh = s.holdsHigh

/-- Every Qualification List entry of a merchant outside `ms` stands. -/
abbrev QualKept (s : State) (d : Draft) (ms : List Nat) : Prop :=
  ∀ k : Qual, k.merchant ∉ ms → (k ∈ d.qual ↔ k ∈ s.qual)

/-- The merchant `m` may trade: it is ENROLLED (R103). -/
abbrev Trading (r : Records) (m : Nat) : Prop := (merchantOf r m).state = .enrolled

/-- The card `c` is ACTIVE and not expired at the clock's value (R29, R32). -/
abbrev Spendable (s : State) (c : Card) : Prop :=
  c.state = .active ∧ ∀ v ∈ c.validUntil, s.clock.value < v

/-- What every value posting leaves alone: every other card, every other merchant and entry, the periods, and everything
volatile but the events, the flags of the device classes and the Qualification List of `ms`. -/
abbrev ValueKept (s : State) (d : Draft) (js ms : List Nat) : Prop :=
  CardsKept s.records d.records js ∧ EntriesKept s.records d.records ms ∧ MerchantsKept s.records d.records ms ∧
  PeriodsKept s.records d.records ∧ QualKept s d ms ∧ PlainDraft s d

/-- The open bank's SATURATED flag after sums that may have saturated (R2). -/
abbrev SaturatedBy (s : State) (d : Draft) (hit : Bool) : Prop :=
  d.records.openBank.saturated = (s.records.openBank.saturated || hit)

/-- The merchant records, the Qualification List and the events of the change-set `d` are those of the merchant conditions of
`ms`, evaluated one after the other on the entries the posting leaves and the merchant table `t`; the posting raises the
events `more` besides (R152; what one evaluation does is ConditionsEvaluated). -/
abbrev Evaluated (s : State) (d : Draft) (t : Table Merchant) (ms : List Nat) (more : BitVec 8) : Prop :=
  let e := ms.foldl Draft.evalMerchant { startDraft s with records := { d.records with merchants := t } }
  d.records.merchants = e.records.merchants ∧ d.qual = e.qual ∧ d.events = e.events ||| more

/-- The merchant table of `s` with one open-hold count changed. -/
def withOpenHolds (s : State) (m n : Nat) : Table Merchant :=
  tablePut unenrolledMerchant s.records.merchants m { merchantOf s.records m with openHolds := n }

/-- The events of a device flag that a posting evaluates: CONDITION_LATCHED when it latches (R155). -/
def latchEvent (f : DevFlag) (live : Bool) : BitVec 8 := if live = true ∧ f.latched = false then 0x40#8 else 0x00#8

/-! Refusals in their order -/

/-- The refusal of the first check that fails, each check standing with its refusal. -/
def firstFailure : List (Bool × Result) → Option Result
  | [] => none
  | check :: rest => if check.1 then firstFailure rest else some check.2

/-- The card is ACTIVE and not expired, as a value request checks it (R32, R35, R55, R72). -/
def spendableChecks (now : Nat) (c : Card) : List (Bool × Result) :=
  [(decide (c.state ≠ .locked), .cardLocked), (decide (c.state ≠ .closing), .cardClosing),
    (decide (c.state ≠ .retired), .cardRetired), (decide (∀ v ∈ c.validUntil, now < v), .cardExpired)]

/-- Merchant checks 1 and 2 (R103). -/
def tradingChecks (x : Merchant) : List (Bool × Result) :=
  [(decide (x.state ≠ .unenrolled ∧ x.state ≠ .withdrawn), .notEnrolled), (decide (x.state ≠ .suspended), .merchantSuspended)]

/-- The merchant checks of an issue and a reload (R33, R35, R103). -/
def salesChecks (x : Merchant) : List (Bool × Result) :=
  tradingChecks x ++ [(x.settings.salesPermitted, .notPermitted), (!x.salesBlocked, .salesBlocked)]

/-- The merchant checks of a refund (R72, R103). -/
def refundChecks (x : Merchant) : List (Bool × Result) :=
  tradingChecks x ++ [(x.settings.refundsPermitted, .notPermitted), (!x.refundsBlocked, .refundsBlocked)]

/-! The end of a posting -/

/-- The conditions a DEVICE clear finds cleared at its end, and those that remain: its counts at the grant, and SUPPLY_LOW
as it stands now (R160; entry 9). -/
def clearCounts (s : State) (cleared remaining : Nat) : Nat × Nat :=
  (cleared + (s.supplyLow.latched && !s.supplyLow.live).toNat, remaining + (s.supplyLow.latched && s.supplyLow.live).toNat)

/-- The records that stand when the posting `p` ends now: its change-set, and the floor a DEVICE clear writes if it cleared
something (R80, R160). -/
def endedRecords (s : State) (p : Posting) : Records :=
  match p.change.finish with
  | .plain => p.change.records
  | .supplyLevels => p.change.records
  | .clearSupplyLow c n =>
      if (clearCounts s c n).1 = 0 then p.change.records
      else { p.change.records with totals := { p.change.records.totals with floor := p.change.now } }

/-- The response the posting `p` places if it ends now: the one it was granted with, or a DEVICE clear's counts (R81,
R160). -/
def endedAnswer (s : State) (p : Posting) : Option Answer :=
  match p.change.finish with
  | .plain => p.answer
  | .supplyLevels => p.answer
  | .clearSupplyLow c n => some (answer .ok (field 2 (clearCounts s c n).1 ++ field 2 (clearCounts s c n).2))

/-- The slot the posting `p` answers if it ends now, with its response; none for an internal posting (R81). -/
def endedSlot (s : State) (p : Posting) : List Answered :=
  match p.item, endedAnswer s p with
  | .slot k, some a =>
      (s.port.accepted.find? (fun q => decide (q.place = k))).toList.map (fun q => { slot := q, answer := a })
  | _, _ => []

/-- The answers `rest` that follow in the step that leaves `t`: slots that were accepted in `s`, in acceptance order, each a
read served on the records of `t`, or a request of the Posting class answered PARKED or CLOCK_UNSET; and after them no read
in `t` is eligible, nor a request of the Posting class where no grant can be made, but for one whose posting is in flight
(R86, R92, R93). -/
def SettledBy (s t : State) (rest : List Answered) : Prop :=
  (rest.map Answered.slot).Sublist s.port.accepted ∧
  (∀ a ∈ rest,
    (∃ i u u', requestOf a.slot = some i ∧ serve i u = some (u', a.answer) ∧ u.records = t.records) ∨
    isPostingSlot a.slot = true ∧
      (t.supply = some .parked ∧ a.answer = refuseSlot a.slot .parked ∨
        t.supply ≠ some .parked ∧ s.clock.state = .unset ∧ a.answer = refuseSlot a.slot .clockUnset)) ∧
  ∀ q ∈ t.port.accepted, eligible t q = true →
    isReadSlot q = false ∧
    (isPostingSlot q = true → inFlight t q = true ∨ t.supply ≠ some .parked ∧ t.clock.state = .set)

/-- The Expiry Unit's waiting request after its test: the head of the Hold Table if none waits and the head is due (R68). -/
def testedWaiting (s : State) (waiting : Option Nat) (holds : List Hold) : Option Nat :=
  if waiting = none ∧ running s = true ∧ s.clock.state = .set then
    (holds.head?.filter (fun h => decide (h.deadline ≤ s.clock.value))).map Hold.id
  else waiting

/-- The rows that are grants: the Posting class and the internal postings (R80, R83). -/
def isGrant : Instr → Bool
  | .expiryPosting => true
  | .alarmCutover => true
  | .statementStep => true
  | .latchPosting => true
  | i => isRequest i && !isRead i

/-- The rotation starts again: no kind granted, no posting, nothing waiting; every block of the Link Port, the Condition
Monitor and the Supply Watch at its power-up state (R13, R88, R169, R178, R183). -/
def blank (s : State) : State :=
  { s with
    clock := { state := .unset, value := 0, dividerRunning := false }
    port := { accepted := [], delivery := [], offered := none, lastRejected := false, lastNotTaken := false,
              frame := none, nextPlace := s.port.nextPlace }
    lastKind := .settlement
    posting := none
    expiryWaiting := none
    alarmPending := false
    qual := []
    events := 0x00#8
    dirHigh := { live := false, latched := false }
    holdsHigh := { live := false, latched := false }
    supplyLow := { live := false, latched := false }
    supply := none
    guard := none
    clockNeededHeld := false }

/-! Shapes and bounds -/

/-- The numbers of a table stand in strictly rising order (entry 32). -/
def rising {α : Type} : Table α → Bool
  | [] => true
  | [_] => true
  | a :: b :: rest => decide (a.1 < b.1) && rising (b :: rest)

/-- A table is in its canonical form: strictly rising, and no entry equal to what an unlisted number reads as
(entry 32). -/
def canonical {α : Type} [DecidableEq α] (dflt : α) (t : Table α) : Bool :=
  rising t && t.all (fun e => decide (e.2 ≠ dflt))

/-- The tables of the record array are in their canonical form. -/
def tablesCanonical (r : Records) : Bool :=
  canonical .empty r.directory && rising r.cards && canonical unenrolledMerchant r.merchants &&
  canonical zeroEntry r.openBank.entries && canonical zeroEntry r.closingBank.entries

/-- The tables of the record array, and of the change-set of a posting in flight, are in their canonical form. -/
def tablesInv (s : State) : Bool :=
  tablesCanonical s.records && s.posting.all (fun p => tablesCanonical p.change.records)

/-- The places of the slots rise strictly from the front and lie below `bound`. -/
def placesRise (bound : Nat) : List Slot → Bool
  | [] => true
  | [a] => decide (a.place < bound)
  | a :: b :: rest => decide (a.place < b.place) && placesRise bound (b :: rest)

/-- The Link Port: at most sixteen slots in use, every place taken once, the offered slot the head of the delivery order, and
no frame while nRESET is low or the device is stopped (R183, R184, R189). -/
def portInv (s : State) : Bool :=
  decide (s.port.accepted.length + s.port.delivery.length ≤ Config.nPortSlots) &&
  placesRise s.port.nextPlace s.port.accepted &&
  s.port.delivery.all (fun a => decide (a.slot.place < s.port.nextPlace)) &&
  decide ((s.port.accepted.map Slot.place ++ s.port.delivery.map (fun a => a.slot.place)).Nodup) &&
  s.port.offered.all (fun p => decide (s.port.delivery.head?.map (fun a => a.slot.place) = some p)) &&
  (running s || s.port.frame.isNone && s.port.offered.isNone)

/-- The highest floor a posting in flight can leave; a DEVICE clear writes it only if it clears something (R160). -/
def floorAtMost (p : Posting) : Nat :=
  match p.change.finish with
  | .plain => p.change.records.totals.floor
  | .clearSupplyLow _ _ => max p.change.records.totals.floor p.change.now
  | .supplyLevels => p.change.records.totals.floor

/-- The lowest floor a posting in flight can leave. -/
def floorAtLeast (p : Posting) : Nat :=
  match p.change.finish with
  | .plain => p.change.records.totals.floor
  | .clearSupplyLow _ _ => min p.change.records.totals.floor p.change.now
  | .supplyLevels => p.change.records.totals.floor

/-- The clock and the floor: the floor never lies above a clock that is SET, neither now nor at the end of the posting in
flight; while the clock is UNSET no posting in flight raises it, and no posting in flight lowers it (R9). -/
def floorInv (s : State) : Bool :=
  (decide (s.clock.state = .unset) || decide (s.records.totals.floor ≤ s.clock.value)) &&
  s.posting.all (fun p =>
    decide (s.records.totals.floor ≤ floorAtLeast p) &&
    (if s.clock.state = .unset then decide (floorAtMost p ≤ s.records.totals.floor)
      else decide (floorAtMost p ≤ s.clock.value)))

/-! The conditions (R157, R161) -/

/-- A block or a VELOCITY cause is in force only while its condition is latched (R161). -/
abbrev ActionsLatched (r : Records) : Prop :=
  (∀ e ∈ r.merchants, (e.2.refundsBlocked = true → e.2.refundLatched = true) ∧
    (e.2.salesBlocked = true → e.2.deficitLatched = true)) ∧
  ∀ e ∈ r.cards, e.2.locks.velocity = true → e.2.velocityLatched = true

/-- The Qualification List stands in order of due time and merchant, one entry for each merchant, and no merchant on it has
REFUND_RATIO latched (R157). -/
abbrev QualInOrder (r : Records) (l : List Qual) : Prop :=
  l.Pairwise (fun a b => qualBefore a b = true) ∧ (l.map Qual.merchant).Nodup ∧
  ∀ k ∈ l, (merchantOf r k.merchant).refundLatched = false

/-- The conditions of the records and of a posting in flight stand as R157 and R161 give them. -/
def conditionsInv (s : State) : Bool :=
  decide (ActionsLatched s.records ∧ QualInOrder s.records s.qual) &&
  s.posting.all (fun p => decide (ActionsLatched p.change.records ∧ QualInOrder p.change.records p.change.qual))

/-! The cards, the holds and outstanding (R24, R29, R52, R53, R96) -/

/-- The entries of the Hold Table that name a card slot. -/
def holdsOn (r : Records) (j : Nat) : List Hold := r.holds.filter (fun h => decide (h.slot = j))

/-- The entries of the Hold Table that name a merchant. -/
def holdsOf (r : Records) (m : Nat) : List Hold := r.holds.filter (fun h => decide (h.merchant = m))

/-- What a card's state says of its other fields (R29, R31). A CLOSING card's reason is one CARD_RETIRE may carry (R39). -/
abbrev CardAsItsState (c : Card) : Prop :=
  ((c.locks.host = true ∨ c.locks.velocity = true) ↔ c.state = .locked) ∧
  (c.retireReason ≠ none ↔ c.state = .closing ∨ c.state = .retired) ∧
  (c.state = .closing → c.retireReason ≠ some .transferred ∧ 0 < c.openHolds) ∧
  (c.retiredAt ≠ none ↔ c.state = .retired) ∧
  (c.state = .retired → c.available = 0 ∧ c.held = 0 ∧ c.openHolds = 0) ∧
  c.available + c.held ≤ 100000000

/-- The Card Store and the directory name the same cards: each card stands under the slot a lookup of its serial finds, and
each USED slot has its card; the occupancy count is their number (R24, R25, R28). -/
abbrev CardsAsPlaced (r : Records) : Prop :=
  (∀ e ∈ r.cards, e.1 < 32768 ∧ slotState r.directory e.1 = .used e.2.serial ∧
    (lookup r.directory e.2.serial).slot = some e.1) ∧
  (∀ e ∈ r.directory, e.1 < 32768 ∧ (e.2 ≠ .vacated → tableFind r.cards e.1 ≠ none)) ∧
  r.occupancy = r.cards.length

/-- The Hold Table: deadline order, its capacity, ids in range and no two alike, each entry on a card that stands and of a
merchant ENROLLED or SUSPENDED (R52, R53, R54). -/
abbrev HoldsInOrder (r : Records) : Prop :=
  r.holds.Pairwise (fun a b => holdBefore a b = true) ∧ (r.holds.map Hold.id).Nodup ∧ r.holds.length ≤ 4096 ∧
  1 ≤ r.holdIdCounter ∧ r.holdIdCounter ≤ 65535 ∧
  ∀ h ∈ r.holds, 1 ≤ h.id ∧ h.id ≤ 65535 ∧ 1 ≤ h.amount ∧ tableFind r.cards h.slot ≠ none ∧
    ((merchantOf r h.merchant).state = .enrolled ∨ (merchantOf r h.merchant).state = .suspended)

/-- Held and open holds are the sums over the entries of the Hold Table, on the cards and on the merchants (R53, R102). -/
abbrev CountsAsHeld (r : Records) : Prop :=
  (∀ e ∈ r.cards, e.2.held = ((holdsOn r e.1).map Hold.amount).sum ∧ e.2.openHolds = (holdsOn r e.1).length ∧
    e.2.openHolds ≤ 4) ∧
  ∀ e ∈ r.merchants, e.2.openHolds = (holdsOf r e.1).length

/-- The sum of available and held over the card records; a RETIRED card has neither (R29, R96). -/
def cardValue (r : Records) : Nat := (r.cards.map (fun e => e.2.available + e.2.held)).sum

/-- The accounts: cards, holds, their counts and outstanding agree, the cap is within its range, and merchant 0 trades or is
suspended (R24, R25, R28, R29, R31, R52, R53, R96, R101, R102). -/
abbrev AccountsAgree (r : Records) : Prop :=
  tablesCanonical r = true ∧ (∀ e ∈ r.cards, CardAsItsState e.2) ∧ CardsAsPlaced r ∧ HoldsInOrder r ∧ CountsAsHeld r ∧
  r.totals.outstanding = cardValue r ∧ r.limits.value.cap ≤ 100000000 ∧
  ((merchantOf r 0).state = .enrolled ∨ (merchantOf r 0).state = .suspended)

/-- The accounts of the records, and of the change-set of a posting in flight, agree. -/
def accountsInv (s : State) : Bool :=
  decide (AccountsAgree s.records) && s.posting.all (fun p => decide (AccountsAgree p.change.records))

/-! The banks (R116 to R120) -/

/-- Opening outstanding + ΣS − ΣR + ΣF − ΣK − retired in period of a bank (R120). -/
def bankBalance (b : Bank) : Int :=
  b.openingOutstanding + (b.entries.map (fun e => e.2.s - e.2.r + e.2.f - e.2.k)).sum - b.retiredInPeriod

/-- The two banks: their period numbers and states, the relation of R120 while SATURATED is clear, and no captured select
or statement in the open bank (R116 to R118, R120). -/
abbrev BanksBalance (r : Records) : Prop :=
  r.openBank.state = .opened ∧ r.openBank.period = r.totals.openPeriod ∧ r.totals.openPeriod < 8 ∧
  r.closingBank.state ≠ .opened ∧ r.closingBank.period = (r.totals.openPeriod + 7) % 8 ∧
  (r.totals.closeDeferred = true → r.closingBank.state ≠ .absent) ∧
  (r.openBank.saturated = false → bankBalance r.openBank = r.totals.outstanding) ∧
  (r.closingBank.state ≠ .absent → r.closingBank.saturated = false →
    r.closingBank.closedOutstanding = some (bankBalance r.closingBank)) ∧
  ∀ e ∈ r.openBank.entries, e.2.captured = none ∧ e.2.statement = none

/-- A WITHDRAWN merchant was withdrawn in the open period, or in the closing one while that bank stands; in that case its
open entry has posted nothing (R110, R112). -/
abbrev WithdrawnQuiet (r : Records) : Prop :=
  ∀ e ∈ r.merchants, e.2.state = .withdrawn →
    e.2.withdrawnIn = some r.totals.openPeriod ∨
    e.2.withdrawnIn = some r.closingBank.period ∧ r.closingBank.state ≠ .absent ∧
      (openEntry r e.1).r = 0 ∧ (openEntry r e.1).f = 0 ∧ (openEntry r e.1).s = 0 ∧ (openEntry r e.1).k = 0

/-- The banks of the records, and of the change-set of a posting in flight, stand as R116 to R120 give them. -/
def banksInv (s : State) : Bool :=
  decide (BanksBalance s.records ∧ WithdrawnQuiet s.records) &&
  s.posting.all (fun p => decide (BanksBalance p.change.records ∧ WithdrawnQuiet p.change.records))

end Sys2Proof.Machine
end

