-- ==== Sys2Proof/Certificates/Slice0/Obligations.lean ====
section
/-! DEFINITION. The statements for the provers. Each says what a command or the device does by the rules it cites; the words
it is stated in stand in Sys2Proof/Safety.lean. -/

open Sys2Proof Sys2Proof.Machine

/-! The queue -/

/-- A step takes the command at the front of the queue and runs it on the state with the queue's rest; with an empty queue
the state stands. No command stops the device, and none touches the queue behind it. That an empty queue idles is entry 3,
that the row of a step that cannot come about still answers a next state is entry 1, and the queue itself is the model's
field (entry 28). -/
def Obligations.StepRunsTheFrontCommand : Prop :=
  (∀ (c : Instr) (rest : List Instr) (s : State),
    step { s with pending := c :: rest } = exec c { s with pending := rest }) ∧
  (∀ s : State, s.pending = [] → step s = .next s) ∧
  ∀ (i : Instr) (s : State), ∃ t, exec i s = .next t ∧ t.pending = s.pending

/-! Frames (R181, R182, R185, R186, R190 to R193) -/

/-- A few frames written out from the layouts of R191 to R193 read as the requests they stand for, and the check word of the
nine digits is the one R182 gives. -/
def Obligations.FramesReadAsLaidOut : Prop :=
  crcBytes [0x31#8, 0x32#8, 0x33#8, 0x34#8, 0x35#8, 0x36#8, 0x37#8, 0x38#8, 0x39#8] = 0x29B1#16 ∧
  decodeRequest 0x20 (padParams [0x00#8, 0x00#8, 0x00#8, 0x10#8, 0x00#8, 0x00#8, 0x7F#8, 0xFE#8, 0x00#8, 0x28#8,
    0x00#8, 0x00#8, 0x11#8, 0x94#8]) = .ok (.redeem 0x1000007FFE 40 4500) ∧
  decodeRequest 0x22 (padParams [0x08#8, 0xA2#8, 0x00#8, 0x28#8, 0x00#8, 0x00#8, 0x12#8, 0x5C#8]) =
    .ok (.holdComplete 2210 40 4700) ∧
  decodeRequest 0x15 (padParams [0x00#8, 0x00#8, 0x00#8, 0x00#8, 0x00#8, 0x00#8, 0x00#8, 0x65#8, 0x01#8]) =
    .ok (.cardRetire 101 .cashOut) ∧
  decodeRequest 0x50 (padParams [0x03#8, 0xFF#8, 0xFF#8, 0x00#8, 0x00#8, 0x00#8, 0x00#8, 0x00#8, 0x00#8, 0x00#8,
    0x65#8]) = .ok (.conditionsClearCard 101) ∧
  decodeRequest 0x44 (padParams [0x08#8]) = .badParameter ∧
  decodeRequest 0x26 (padParams []) = .unknown

/-- Decode and encode agree: the frame of a well-formed request, under any tag, has the right length and a good check word,
carries the tag in byte 1, and its code and parameter bytes spell that request, with every operand; bytes beyond the last
field are not read (R191).
And what acceptance makes of any code and parameter bytes (R186): a code that is not one of the 34 of R190 is unknown; with a
known one, bytes all of whose checked fields lie in their ranges, the amount at least 1 where the request has one, spell a
well-formed request of that code; an amount of 0 alone is answered BAD_AMOUNT (R1), and a field outside its range alone
BAD_PARAMETER (R6, R190). Which of the two answers a request takes that fails both checks is left open (entry 11); that the
warning level and the alarm enable of the DEVICE group are checked here is entry 15 (DEDUCED). -/
def Obligations.RequestFramesSpelledAndChecked : Prop :=
  (∀ (i : Instr) (tag : Byte), WellFormed i = true → isRequest i = true →
    rightLength (requestFrame tag i) = true ∧ goodCrc (requestFrame tag i) = true ∧
    ∃ code rest, toBytes (requestFrame tag i) = code :: tag :: rest ∧ code ≠ 0x00#8 ∧
      decodeRequest code.toNat (rest.take 28) = .ok i) ∧
  (∀ (i : Instr) (code : Nat) (ps more : List Byte), WellFormed i = true → encodeRequest i = some (code, ps) →
    decodeRequest code (ps ++ more) = .ok i) ∧
  ∀ (code : Nat) (ps : List Byte),
    (decodeRequest code ps = .unknown ↔ code ∉ requestCodes) ∧
    (∀ i, decodeRequest code ps = .ok i →
      WellFormed i = true ∧ isRequest i = true ∧ (encodeRequest i).map Prod.fst = some code) ∧
    (code ∈ requestCodes →
      let zero := ∃ n ∈ amountAt code, param ps n 4 = 0
      (FieldsInRange code ps → ¬ zero → ∃ i, decodeRequest code ps = .ok i) ∧
      (FieldsInRange code ps → zero → decodeRequest code ps = .badAmount) ∧
      (¬ FieldsInRange code ps → ¬ zero → decodeRequest code ps = .badParameter) ∧
      (¬ FieldsInRange code ps → zero →
        decodeRequest code ps = .badAmount ∨ decodeRequest code ps = .badParameter))

/-- NSEL_RISE that ends a good frame of a well-formed request with a slot FREE: the offered response is delivered and the
request is put into a slot, ACCEPTED, with its code, tag, parameters and named serials, at the next place in acceptance
order; both flags are clear and the offer is over (R84, R185, R186). This is the case in which the request then waits: a
read; a request of the Posting class where a grant can be made; or one behind an unanswered slot that names a serial it
names, whatever the clock and the supply (R85, R92, R93). A read that no unanswered slot holds back is then the one that is
served, before anything else comes about (R86; ReadsAreServed). That its slot reads ACCEPTED until the step that serves it is
how the model shows that moment (entry 25, DEDUCED). And the serials each request names: its own; source and target of a transfer, once if they are equal; for the hold-naming requests the serial of the card
of the entry under the hold id, none if no entry stands; for every other request none (R84). -/
def Obligations.AcceptanceOfARequest : Prop :=
  (∀ (s : State) (i : Instr) (tag : Byte) (code : Nat) (ps : List Byte),
    WellFormed i = true → encodeRequest i = some (code, ps) → NoReadWaits s →
    running s = true → s.nSelLow = true → s.port.frame.isSome = true →
    (isRead i = true ∨ s.clock.state = .set ∧ s.supply ≠ some .parked ∨
      portInv s = true ∧ ∃ p ∈ s.port.accepted, ∃ x ∈ namedSerials s.records i, x ∈ p.serials) →
    let left := s.port.delivery.filter (fun a => decide (some a.slot.place ≠ s.port.offered))
    s.port.accepted.length + left.length < 16 →
    let q : Slot := { place := s.port.nextPlace, code := BitVec.ofNat 8 code, tag := tag, params := padParams ps,
                      serials := namedSerials s.records i }
    let t : State := { s with
      nSelLow := false
      port := { accepted := s.port.accepted ++ [q], delivery := left, offered := none, lastRejected := false,
                lastNotTaken := false, frame := none, nextPlace := s.port.nextPlace + 1 } }
    exec (.nselRise (requestFrame tag i)) s = .next t ∧ requestOf q = some i ∧
    (isRead i = true → (∀ p ∈ s.port.accepted, ∀ x ∈ namedSerials s.records i, x ∉ p.serials) → Served t i q)) ∧
  ∀ r : Records,
    (∀ x y m a v p reason,
      [Instr.cardIssue x m a v, .cardReload x m a, .cardLock x, .cardUnlock x, .cardRetire x reason, .cardPurge x,
        .cardInquire x p, .redeem x m a, .holdPlace x m a v, .refund x m a].all
        (fun i => decide (namedSerials r i = [x])) = true ∧
      namedSerials r (.cardTransfer x x) = [x] ∧ (x ≠ y → namedSerials r (.cardTransfer x y) = [x, y])) ∧
    (∀ id m a p,
      let three := [Instr.holdComplete id m a, .holdVoid id m, .holdInquire id p]
      (findHold r.holds id = none → ∀ i ∈ three, namedSerials r i = []) ∧
      ∀ h c, findHold r.holds id = some h → tableFind r.cards h.slot = some c →
        ∀ i ∈ three, namedSerials r i = [c.serial]) ∧
    ∀ i code ps, encodeRequest i = some (code, ps) → 0x30 ≤ code → namedSerials r i = []

/-- NSEL_FALL (R184): with nRESET high a frame begins, with the status byte latched and the head of the delivery order, if
any, as the offered slot; while nRESET is low or the device is stopped only the pin moves (R178, R189).
The frame in progress sends 32 bytes: the status byte; the tag, code and result code of the offered slot and its result
bytes, 0 beyond the last field, or zeros up to byte 29 with none offered; and the CRC, high byte first. Each byte goes out
from its most significant bit, and edges beyond the 256th drive 0. SDO is driven during the frame, and not while nSEL is high
or nRESET low or the device is stopped (R181, R182, R184, R189 to R191). A byte with no stated value is left open (entry 13).
NSEL_RISE that takes no request (R185): a frame of the wrong length delivers nothing and sets LAST_REJECTED; a bad frame of
the right length delivers and sets LAST_REJECTED; a good frame of code 00h delivers and clears both flags; a good frame that
finds no slot FREE delivers and sets LAST_NOT_TAKEN. A rise that ends no frame, because none began or nRESET is low or the
device is stopped, moves only the pin (R189). -/
def Obligations.FramesBeginSendAndEnd : Prop :=
  (∀ s : State, s.nSelLow = false → NoReadWaits s →
    (running s = true → exec .nselFall s =
      .next { s with
        nSelLow := true
        port := { s.port with
          frame := some (statusByte s), offered := s.port.delivery.head?.map (fun a => a.slot.place) } }) ∧
    (running s = false → exec .nselFall s = .next { s with nSelLow := true })) ∧
  (∀ (s : State) (status : Byte), s.port.frame = some status →
    ∃ bytes, outboundFrame s = some bytes ∧ bytes.length = 32 ∧ bytes[0]? = some status ∧
      (s.port.offered = none → ∀ n, 1 ≤ n → n < 30 → bytes[n]? = some 0x00#8) ∧
      (∀ a, s.port.delivery.head? = some a → s.port.offered = some a.slot.place →
        bytes[1]? = some a.slot.tag ∧ bytes[2]? = some a.slot.code ∧
        bytes[3]? = some (BitVec.ofNat 8 (resultCode a.answer.result)) ∧
        ∀ n, n < 26 →
          (a.answer.body[n]? = none → bytes[n + 4]? = some 0x00#8) ∧
          ∀ b, a.answer.body[n]? = some (some b) → bytes[n + 4]? = some b) ∧
      bytes[30]? = some ((crcBytes (bytes.take 30)).extractLsb' 8 8) ∧
      bytes[31]? = some ((crcBytes (bytes.take 30)).extractLsb' 0 8) ∧
      (∀ n, n < 256 → sdoBit s n = bytes[n / 8]?.map (fun b => b.getLsbD (7 - n % 8))) ∧
      (∀ n, 256 ≤ n → sdoBit s n = some false) ∧
      (running s = true → s.nSelLow = true → sdoDriven s = true)) ∧
  (∀ s : State, (s.nSelLow = false ∨ s.nResetLow = true ∨ s.powered = false → sdoDriven s = false) ∧
    (s.port.frame = none → outboundFrame s = none)) ∧
  [Result.none, .ok, .partialApproval, .deferred, .unknownRequest, .badParameter, .badAmount, .noCard, .cardExists,
    .directoryFull, .cardLocked, .cardClosing, .cardRetired, .cardExpired, .notRetired, .insufficient, .capExceeded,
    .holdsFull, .cardHoldsFull, .noHold, .holdExpired, .overTolerance, .wrongMerchant, .notEnrolled, .alreadyEnrolled,
    .merchantSuspended, .notPermitted, .salesBlocked, .refundsBlocked, .holdsOpen, .statementPending, .notReady,
    .wrongPeriod, .noStatement, .scheduleInvalid, .clockUnset, .clockBehind, .parked].map resultCode =
    [0x00, 0x01, 0x02, 0x03, 0x10, 0x11, 0x12, 0x20, 0x21, 0x22, 0x23, 0x24, 0x25, 0x26, 0x27, 0x30, 0x31, 0x32, 0x33,
      0x34, 0x35, 0x36, 0x37, 0x40, 0x41, 0x42, 0x43, 0x44, 0x45, 0x46, 0x50, 0x51, 0x52, 0x53, 0x54, 0x60, 0x61,
      0x62] ∧
  (∀ (s : State) (sdi : List Bool), s.nSelLow = true → NoReadWaits s → (running s = false ∨ s.port.frame = none) →
    exec (.nselRise sdi) s = .next { s with nSelLow := false }) ∧
  ∀ (s : State) (sdi : List Bool), running s = true → s.nSelLow = true → s.port.frame.isSome = true →
    NoReadWaits s →
    let left := s.port.delivery.filter (fun a => decide (some a.slot.place ≠ s.port.offered))
    let ends := fun (delivery : List Answered) (rejected notTaken : Bool) =>
      ({ s with
        nSelLow := false
        port := { s.port with
          delivery := delivery, offered := none, lastRejected := rejected, lastNotTaken := notTaken,
          frame := none } } : State)
    (sdi.length ≠ 256 → exec (.nselRise sdi) s = .next (ends s.port.delivery true false)) ∧
    (sdi.length = 256 → goodCrc sdi = false → exec (.nselRise sdi) s = .next (ends left true false)) ∧
    (sdi.length = 256 → goodCrc sdi = true → (toBytes sdi).head? = some 0x00#8 →
      exec (.nselRise sdi) s = .next (ends left false false)) ∧
    (sdi.length = 256 → goodCrc sdi = true → (toBytes sdi).head? ≠ some 0x00#8 →
      16 ≤ s.port.accepted.length + left.length → exec (.nselRise sdi) s = .next (ends left false true))

/-- A request that is accepted but cannot be used is answered at once, whatever the clock, the supply and the posting in
flight: an unknown code UNKNOWN_REQUEST, a failed acceptance check BAD_PARAMETER or BAD_AMOUNT; it names no serial. Which
requests these are is in RequestFramesSpelledAndChecked. A request of the Posting class that is eligible when accepted, where no grant can be made, is answered at once without a grant: PARKED
while the device is parked, else CLOCK_UNSET while the clock is UNSET. Its slot joins the end of the delivery order (R83,
R84, R92, R93, R186, R187). Such a response, in every statement that places one, has that result and no field, but for two
kinds of request: code 16h carries one byte with no stated value, the card concerned (R51; entry 33, a DESIGN CHOICE), and
codes 30h to 35h carry the merchant number the request carried (R115, against R191; entry 12, DEDUCED). -/
def Obligations.AnsweredAtAcceptance : Prop :=
  (∀ (s : State) (sdi : List Bool) (code tag : Byte) (rest : List Byte) (r : Result),
    portInv s = true → NoReadWaits s → running s = true → s.nSelLow = true → s.port.frame.isSome = true →
    sdi.length = 256 → goodCrc sdi = true → toBytes sdi = code :: tag :: rest → code ≠ 0x00#8 →
    (decodeRequest code.toNat (rest.take 28) = .unknown ∧ r = .unknownRequest ∨
      decodeRequest code.toNat (rest.take 28) = .badParameter ∧ r = .badParameter ∨
      decodeRequest code.toNat (rest.take 28) = .badAmount ∧ r = .badAmount) →
    let left := s.port.delivery.filter (fun a => decide (some a.slot.place ≠ s.port.offered))
    s.port.accepted.length + left.length < 16 →
    let q : Slot := { place := s.port.nextPlace, code := code, tag := tag, params := rest.take 28, serials := [] }
    exec (.nselRise sdi) s =
      .next { s with
        nSelLow := false
        port := { accepted := s.port.accepted, delivery := left ++ [{ slot := q, answer := refuseSlot q r }],
                  offered := none, lastRejected := false, lastNotTaken := false, frame := none,
                  nextPlace := s.port.nextPlace + 1 } }) ∧
  (∀ (s : State) (i : Instr) (tag : Byte) (code : Nat) (ps : List Byte) (r : Result),
    portInv s = true → NoReadWaits s → WellFormed i = true → isRead i = false → encodeRequest i = some (code, ps) →
    running s = true → s.nSelLow = true → s.port.frame.isSome = true →
    (∀ p ∈ s.port.accepted, ∀ x ∈ namedSerials s.records i, x ∉ p.serials) →
    (s.supply = some .parked ∧ r = .parked ∨
      s.supply ≠ some .parked ∧ s.clock.state = .unset ∧ r = .clockUnset) →
    let left := s.port.delivery.filter (fun a => decide (some a.slot.place ≠ s.port.offered))
    s.port.accepted.length + left.length < 16 →
    let q : Slot := { place := s.port.nextPlace, code := BitVec.ofNat 8 code, tag := tag, params := padParams ps,
                      serials := namedSerials s.records i }
    exec (.nselRise (requestFrame tag i)) s =
      .next { s with
        nSelLow := false
        port := { accepted := s.port.accepted, delivery := left ++ [{ slot := q, answer := refuseSlot q r }],
                  offered := none, lastRejected := false, lastNotTaken := false, frame := none,
                  nextPlace := s.port.nextPlace + 1 } }) ∧
  ∀ (q : Slot) (r : Result), (refuseSlot q r).result = r ∧
    (q.code = 0x16#8 → (refuseSlot q r).body = [none]) ∧
    (∀ hi lo rest, 0x30#8 ≤ q.code → q.code ≤ 0x35#8 → q.params = hi :: lo :: rest →
      (refuseSlot q r).body = [some hi, some lo]) ∧
    (q.code ≠ 0x16#8 → q.code < 0x30#8 ∨ 0x35#8 < q.code → (refuseSlot q r).body = [])

/-- The status byte, latched at the fall of nSEL and sent as byte 0 of the frame that begins: its eight bits (R188). -/
def Obligations.StatusByteShowsTheState : Prop :=
  ∀ s : State, s.nSelLow = false → running s = true → NoReadWaits s →
    ∃ t b, exec .nselFall s = .next t ∧ t.port.frame = some b ∧ (outboundFrame t).bind List.head? = some b ∧
      b.getLsbD 7 = nattnLow s ∧
      b.getLsbD 6 = decide (1 < s.port.delivery.length) ∧
      b.getLsbD 5 = decide (16 ≤ s.port.accepted.length + s.port.delivery.length) ∧
      b.getLsbD 4 = s.port.lastRejected ∧
      b.getLsbD 3 = s.port.lastNotTaken ∧
      b.getLsbD 2 = decide (s.supply = some .parked) ∧
      b.getLsbD 1 = decide (s.clock.state = .unset) ∧
      b.getLsbD 0 = decide (s.records.closingBank.state = .computing)

/-- nATTN is low exactly while an enabled raw flag is set or a condition is latched whose class has report on (R168). -/
def Obligations.AttentionLine : Prop :=
  ∀ s : State, s.powered = true → rising s.records.merchants = true → rising s.records.cards = true →
    let report := s.records.limits.device.report
    (nattnLow s = true ↔
      s.events &&& s.records.limits.device.enable ≠ 0x00#8 ∨
      (∃ m, (merchantOf s.records m).refundLatched = true ∧ report.getLsbD 5 = true) ∨
      (∃ m, (merchantOf s.records m).deficitLatched = true ∧ report.getLsbD 4 = true) ∨
      (∃ j c, tableFind s.records.cards j = some c ∧ c.velocityLatched = true ∧ report.getLsbD 3 = true) ∨
      s.dirHigh.latched = true ∧ report.getLsbD 2 = true ∨
      s.holdsHigh.latched = true ∧ report.getLsbD 1 = true ∨
      s.supplyLow.latched = true ∧ report.getLsbD 0 = true)

/-! The clock (R8, R10, R12) -/

/-- TICK: a SET clock below its maximum rises by 1; the advance fires an enabled alarm whose time of day it passes, and makes
the Expiry Unit ask for a due head if it has no waiting request and nRESET is high. A clock at its maximum or UNSET stands,
and so does one whose divider stands or whose device is stopped (R8, R12, R13, R68, R128). -/
def Obligations.TickRaisesTheClock : Prop :=
  ∀ s : State, NoReadWaits s →
    (s.powered = true → s.clock.dividerRunning = true → s.records.limits.device.alarmTime < 86400 →
      s.clock.state = .set → s.clock.value < 4294967295 →
      let fires := s.records.limits.device.alarmEnable &&
        decide ((s.clock.value + 1) % 86400 = s.records.limits.device.alarmTime)
      exec .tick s =
        .next { s with
          clock := { s.clock with value := s.clock.value + 1 }
          alarmPending := s.alarmPending || fires
          posting := if fires then s.posting.map (fun p => { p with alarmFired := true }) else s.posting
          expiryWaiting :=
            if running s = true ∧ s.expiryWaiting = none then
              (s.records.holds.head?.filter (fun h => decide (h.deadline ≤ s.clock.value + 1))).map Hold.id
            else s.expiryWaiting }) ∧
    (s.clock.value = 4294967295 ∨ s.clock.state = .unset ∨ s.clock.dividerRunning = false ∨ s.powered = false →
      exec .tick s = .next s)

/-- CLOCK_SET, served while no other slot waits that its answer would let go on: the five cases of R10. A set behind the floor or behind a SET clock is
answered CLOCK_BEHIND and changes nothing; a taken set leaves the clock SET at v with its divider restarted; only a set from
SET to a later value is an advance, which fires the alarm when a second it passes has the alarm's time of day. The clock
becoming SET, or its value changing, lets the Expiry Unit test (R12, R68, R128); a set to the value a SET clock has does not.
Nothing else changes. -/
def Obligations.ClockSetIsJudged : Prop :=
  ∀ (s : State) (v : Nat) (q : Slot), portInv s = true → Served s (.clockSet v) q → OthersWait s q →
    s.records.limits.device.alarmTime < 86400 →
    let floor := s.records.totals.floor
    let told := fun (st v : Nat) => field 1 st ++ field 4 v ++ field 4 floor
    let others := s.port.accepted.filter (fun x => decide (x.place ≠ q.place))
    ((v < floor ∨ s.clock.state = .set ∧ v < s.clock.value) →
      exec (.clockSet v) s =
        .next { s with port := { s.port with
          accepted := others
          delivery := s.port.delivery ++
            [{ slot := q, answer := answer .clockBehind
                (told (if s.clock.state = .set then 1 else 0) s.clock.value) }] } }) ∧
    (floor ≤ v → (s.clock.state = .set → s.clock.value ≤ v) →
      ∃ fires : Bool,
        (fires = true ↔ s.clock.state = .set ∧ s.records.limits.device.alarmEnable = true ∧
          ∃ k, s.clock.value < k ∧ k ≤ v ∧ k % 86400 = s.records.limits.device.alarmTime) ∧
        exec (.clockSet v) s =
          .next { s with
            clock := { state := .set, value := v, dividerRunning := true }
            alarmPending := s.alarmPending || fires
            posting := if fires then s.posting.map (fun p => { p with alarmFired := true }) else s.posting
            expiryWaiting :=
              if s.expiryWaiting ≠ none ∨ s.clock.state = .set ∧ v = s.clock.value then s.expiryWaiting
              else (s.records.holds.head?.filter (fun h => decide (h.deadline ≤ v))).map Hold.id
            port := { s.port with
              accepted := others
              delivery := s.port.delivery ++ [{ slot := q, answer := answer .ok (told 1 v) }] } })

/-! The supply and nRESET (R169 to R179, R189) -/

/-- SUPPLY_BELOW_WARNING: a fall strictly below the warning level leaves NORMAL for LOW, starts the guard timer with the G in
force, makes SUPPLY_LOW live and latched and sets its raw event, with CONDITION_LATCHED when it latches; a supply at the
level changes nothing. SUPPLY_ABOVE_RECOVERY: a rise strictly above the warning level plus 50 mV returns to NORMAL from LOW
or PARKED, with the guard timer idle and SUPPLY_LOW no longer live but as latched as it was; leaving PARKED sets
PARK_CHANGED; at or below that level nothing changes (R170, R171, R172, R175). -/
def Obligations.SupplyMovesBetweenNormalAndLow : Prop :=
  ∀ (s : State) (r : SupplyReading), running s = true → NoReadWaits s →
    let warning := warningMv s.records.limits.device.warning
    (s.supply = some .normal → r.vdd < warning →
      exec (.supplyBelowWarning r) s =
        .next { s with
          reading := r
          supply := some .low
          guard := some { startedAt := r.ms, span := s.records.limits.device.guardTime }
          supplyLow := { live := true, latched := true }
          events := s.events ||| (if s.supplyLow.latched then 0x00#8 else 0x40#8) ||| 0x80#8 }) ∧
    (s.supply ≠ some .normal ∨ warning ≤ r.vdd →
      exec (.supplyBelowWarning r) s = .next { s with reading := r }) ∧
    (s.supply = some .low ∨ s.supply = some .parked → warning + 50 < r.vdd →
      exec (.supplyAboveRecovery r) s =
        .next { s with
          reading := r
          supply := some .normal
          guard := none
          supplyLow := { live := false, latched := s.supplyLow.latched }
          events := s.events ||| (if s.supply = some .parked then 0x01#8 else 0x00#8) }) ∧
    (s.supply = some .normal ∨ r.vdd ≤ warning + 50 →
      exec (.supplyAboveRecovery r) s = .next { s with reading := r })

/-- GUARD_TIMER_RUNS_OUT: when G milliseconds have passed since the guard timer's start, LOW becomes PARKED: every slot of
the Posting class that is not in flight is answered PARKED in acceptance order, and no record changes. The reads this makes
eligible follow in acceptance order, served on the records as they stand, and nothing else is answered; no read is left
eligible. With no read waiting the PARKED answers are all, and PARK_CHANGED is the one event. Before that moment nothing
changes (R86, R93, R171, R174). That the PARKED answers all come before the reads they make eligible is entry 10 (DEDUCED;
the example of 5.6 reads otherwise). What a PARKED answer carries is in AnsweredAtAcceptance, by entries 12 and 33. -/
def Obligations.GuardTimerParks : Prop :=
  ∀ (s : State) (r : SupplyReading) (g : Guard), portInv s = true → running s = true → NoReadWaits s →
    s.supply = some .low → s.guard = some g →
    (g.startedAt + g.span ≤ r.ms →
      let parked := s.port.accepted.filter (fun q => isPostingSlot q && !inFlight s q)
      ∃ t rest, exec (.guardTimerRunsOut r) s = .next t ∧ t.supply = some .parked ∧ t.guard = none ∧
        t.records = s.records ∧ t.posting.isSome = s.posting.isSome ∧
        t.port.delivery = s.port.delivery ++ parked.map (fun q => { slot := q, answer := refuseSlot q .parked }) ++ rest ∧
        t.port.accepted = s.port.accepted.filter (fun x => decide (
          x.place ∉ parked.map Slot.place ∧ x.place ∉ rest.map (fun b => b.slot.place))) ∧
        SettledBy s t rest ∧ (∀ b ∈ rest, isReadSlot b.slot = true) ∧
        (∀ q ∈ t.port.accepted, isPostingSlot q = true → inFlight s q = true) ∧
        ((∀ q ∈ s.port.accepted, isReadSlot q = false) → s.supplyLow.latched = true →
          rest = [] ∧ t.events = s.events ||| 0x01#8)) ∧
    (r.ms < g.startedAt + g.span → exec (.guardTimerRunsOut r) s = .next { s with reading := r })

/-- SUPPLY_STOP: strictly below 2.70 V the device stops and holds no volatile state; a posting in flight ends first, so its
changes stand in the record array, a DEVICE clear's floor among them if it cleared something (R81, R160, R177). At 2.70 V or
above nothing changes (R170). That the posting ends inside the step of the stop is entry 24 (DEDUCED), and that SUPPLY_LOW
is judged there as it then stands is entry 9 (DEDUCED). -/
def Obligations.StopLosesVolatileState : Prop :=
  ∀ (s : State) (r : SupplyReading), s.powered = true → NoReadWaits s →
    (r.vdd < 2700 → s.posting = none →
      exec (.supplyStop r) s = .next { blank s with reading := r, powered := false }) ∧
    (∀ p, r.vdd < 2700 → s.posting = some p →
      exec (.supplyStop r) s = .next { blank s with reading := r, powered := false, records := endedRecords s p }) ∧
    (∀ p, endedRecords s p =
      match p.change.finish with
      | .plain => p.change.records
      | .supplyLevels => p.change.records
      | .clearSupplyLow c _ =>
          { p.change.records with totals := { p.change.records.totals with floor :=
            if c = 0 ∧ ¬ (s.supplyLow.latched = true ∧ s.supplyLow.live = false) then p.change.records.totals.floor
            else p.change.now } }) ∧
    (2700 ≤ r.vdd → exec (.supplyStop r) s = .next { s with reading := r })

/-- POWER_UP: above 2.75 V with VHOLD charged the device starts: every block at its power-up state, CLOCK_NEEDED set, the
supply NORMAL, or LOW with the guard timer started and SUPPLY_LOW set and latched, and the tables evaluated. While nRESET is
low the first evaluation and CLOCK_NEEDED wait. Until both conditions hold nothing happens (R13, R169, R178). -/
def Obligations.PowerUpStartsTheDevice : Prop :=
  ∀ (s : State) (r : SupplyReading) (charged : Bool), s.powered = false →
    let dir := decide (s.records.limits.monitor.dirWatermark ≤ s.records.occupancy)
    let holds := decide (s.records.limits.monitor.holdWatermark ≤ s.records.holds.length)
    let started := ({ blank s with reading := r, vhold := charged, powered := true } : State)
    let evaluated := ({ started with
      dirHigh := { live := dir, latched := dir }, holdsHigh := { live := holds, latched := holds } } : State)
    (charged = true → 2750 < r.vdd → s.nResetLow = false →
      warningMv s.records.limits.device.warning ≤ r.vdd →
      exec (.powerUp r charged) s =
        .next { evaluated with
          supply := some .normal, events := 0x20#8 ||| (if dir || holds then 0x40#8 else 0x00#8) }) ∧
    (charged = true → 2750 < r.vdd → s.nResetLow = false → r.vdd < warningMv s.records.limits.device.warning →
      exec (.powerUp r charged) s =
        .next { evaluated with
          supply := some .low
          guard := some { startedAt := r.ms, span := s.records.limits.device.guardTime }
          supplyLow := { live := true, latched := true }
          events := 0xE0#8 }) ∧
    (charged = true → 2750 < r.vdd → s.nResetLow = true →
      exec (.powerUp r charged) s = .next { started with clockNeededHeld := true }) ∧
    (charged = false ∨ r.vdd ≤ 2750 → exec (.powerUp r charged) s = .next { s with reading := r, vhold := charged })

/-- NRESET_FALL with no posting in flight: the ACCEPTED slots are discarded, the frame and the port's flags end, the events,
the device flags, the internal candidates and the supply state are cleared; ANSWERED slots, the clock and the record array
stand (R13, R94, R169, R179, R189). A posting in flight, of any kind, ends first, just as POSTING_END ends it with the last
reading: its changes stand, its response and those of the slots its end makes eligible are placed behind the ones already
answered. That it ends inside the step of the fall is entry 24, and that a Posting-class slot its end makes eligible while
PARKED is answered and kept is entry 37 (both DEDUCED). What such an answer carries is in AnsweredAtAcceptance, by
entries 12 and 33. -/
def Obligations.FallOfResetClears : Prop :=
  ∀ s : State, s.powered = true → s.nResetLow = false → NoReadWaits s →
    let down := fun (t : State) =>
      ({ s with
        records := t.records
        clock := t.clock
        port := { s.port with
          accepted := [], delivery := t.port.delivery, offered := none, lastRejected := false, lastNotTaken := false,
          frame := none }
        lastKind := s.lastKind
        posting := none
        expiryWaiting := none
        alarmPending := false
        qual := []
        events := 0x00#8
        dirHigh := { live := false, latched := false }
        holdsHigh := { live := false, latched := false }
        supplyLow := { live := false, latched := false }
        supply := none
        guard := none
        nResetLow := true } : State)
    (s.posting = none → exec .nresetFall s = .next (down s)) ∧
    (∀ p, s.posting = some p → portInv s = true →
      ∃ t rest, exec (.postingEnd s.reading) s = .next t ∧ exec .nresetFall s = .next (down t) ∧
        t.records = endedRecords s p ∧ t.port.delivery = s.port.delivery ++ endedSlot s p ++ rest ∧ SettledBy s t rest)

/-- NRESET_RELEASE: the arbiter restarts at Link, the supply is evaluated afresh, the tables are evaluated, a CLOCK_NEEDED
held back by a power-up is set, and the Expiry Unit makes its test (R68, R88, R169, R178, R179). Stated for the state a fall
of nRESET or a power-up leaves: no event, no device flag, no waiting request. That a release after a plain fall with the
clock UNSET does not set CLOCK_NEEDED is entry 27 (DEDUCED). -/
def Obligations.ReleaseOfResetRestarts : Prop :=
  ∀ (s : State) (r : SupplyReading), s.nResetLow = true → s.powered = true → s.events = 0x00#8 →
    s.dirHigh = { live := false, latched := false } → s.holdsHigh = { live := false, latched := false } →
    s.supplyLow = { live := false, latched := false } → s.expiryWaiting = none → s.posting = none →
    let dir := decide (s.records.limits.monitor.dirWatermark ≤ s.records.occupancy)
    let holds := decide (s.records.limits.monitor.holdWatermark ≤ s.records.holds.length)
    let low := decide (r.vdd < warningMv s.records.limits.device.warning)
    exec (.nresetRelease r) s =
      .next { s with
        nResetLow := false
        reading := r
        lastKind := .settlement
        clockNeededHeld := false
        supply := if low then some .low else some .normal
        guard := if low then some { startedAt := r.ms, span := s.records.limits.device.guardTime } else none
        supplyLow := { live := low, latched := low }
        dirHigh := { live := dir, latched := dir }
        holdsHigh := { live := holds, latched := holds }
        events := (if s.clockNeededHeld then 0x20#8 else 0x00#8) ||| (if low then 0x80#8 else 0x00#8) |||
          (if low || dir || holds then 0x40#8 else 0x00#8)
        expiryWaiting :=
          if s.clock.state = .set then
            (s.records.holds.head?.filter (fun h => decide (h.deadline ≤ s.clock.value))).map Hold.id
          else none }

/-! Grants and the ends of postings (R80 to R91) -/

/-- No grant is made while the Supply Watch is PARKED, while nRESET is low, while the device is stopped (R177, R178) or while a
posting is in flight; and while the clock is UNSET none but a statement step (R80, R91). The kind granted is the first in
the rotation Link, Expiry, Settlement, Link that comes after the last-granted kind and has a candidate that may be granted;
with none, no grant is made (R90). A grant that cannot come about is not made: the row of a request that is not the Link
candidate of Link's turn, and the row of an internal posting that is not the candidate of its kind's turn, changes nothing
(R89, R90). That the row of such a grant answers the same state is entry 1, here where no read is still to be served (R86). -/
def Obligations.GrantsFollowTheRotation : Prop :=
  (∀ (i : Instr) (s : State), isGrant i = true → NoReadWaits s →
    (s.supply = some .parked ∨ s.nResetLow = true ∨ s.powered = false ∨ s.posting.isSome = true ∨
      s.clock.state = .unset ∧ i ≠ .statementStep) →
    exec i s = .next s) ∧
  (∀ s : State, mayGrant s = true →
    (∀ k, arbiterChoice s = some k →
      grantable s k = true ∧
      ∀ k', grantable s k' = true →
        (rotation s.lastKind).findIdx (fun x => decide (x = k)) ≤
          (rotation s.lastKind).findIdx (fun x => decide (x = k'))) ∧
    (arbiterChoice s = none ↔ ∀ k, grantable s k = false) ∧
    rotation .link = [.expiry, .settlement, .link] ∧ rotation .expiry = [.settlement, .link, .expiry] ∧
    rotation .settlement = [.link, .expiry, .settlement]) ∧
  (∀ (i : Instr) (s : State), isRequest i = true → isRead i = false → NoReadWaits s →
    (arbiterChoice s ≠ some .link ∨ ∀ q, linkCandidate s = some q → requestOf q ≠ some i) → exec i s = .next s) ∧
  (∀ s : State, NoReadWaits s → arbiterChoice s ≠ some .expiry → exec .expiryPosting s = .next s) ∧
  (∀ s : State, NoReadWaits s → arbiterChoice s ≠ some .settlement ∨ s.alarmPending = false →
    exec .alarmCutover s = .next s) ∧
  (∀ s : State, NoReadWaits s → arbiterChoice s ≠ some .settlement ∨ s.alarmPending = true ∨
      (∀ k ∈ s.qual.head?, s.clock.state = .unset ∨ s.clock.value < k.due) →
    exec .latchPosting s = .next s) ∧
  ∀ s : State, NoReadWaits s → arbiterChoice s ≠ some .settlement ∨ s.alarmPending = true ∨
      (∃ k, s.qual.head? = some k ∧ s.clock.state = .set ∧ k.due ≤ s.clock.value) ∨
      s.records.closingBank.state ≠ .computing →
    exec .statementStep s = .next s

/-- POSTING_END of a link posting: its changes become visible together, the write side is free, the response stands in its
slot behind those answered before. The slots this makes eligible follow in acceptance order: a read is served on the new
records, a request of the Posting class is answered where no grant can be made, and none of either is left eligible. Then the
Expiry Unit makes its test on the new head (R68, R80, R81, R86, R92, R93, R187). What a LIMITS_SET's end does to the supply
state is in ChangedLevelsMeetTheSupply, and what a DEVICE clear's does to SUPPLY_LOW in ClearOfDevice.
POSTING_END of an internal posting: its changes become visible together and the write side is free, the slots that wait are
served or answered in the same way, an expiry posting's waiting request becomes none and the Expiry Unit makes its test again;
a firing of the alarm taken while a cutover was in flight stays pending (R68, R69, R80, R125). A read that was eligible before
this end is served before it, on the records it still finds (R86; ReadsAreServed). What an answer without a grant carries is in
AnsweredAtAcceptance, by entries 12 and 33. -/
def Obligations.PostingsEnd : Prop :=
  (∀ (s : State) (r : SupplyReading) (p : Posting) (q : Slot) (a : Answer), portInv s = true → NoReadWaits s →
    s.posting = some p → p.kind = .link → p.item = .slot q.place → q ∈ s.port.accepted → endedAnswer s p = some a →
    ∃ t rest, exec (.postingEnd r) s = .next t ∧ t.records = endedRecords s p ∧ t.posting = none ∧
      t.qual = p.change.qual ∧ t.dirHigh = p.change.dirHigh ∧ t.holdsHigh = p.change.holdsHigh ∧
      t.lastKind = s.lastKind ∧
      t.port.delivery = s.port.delivery ++ { slot := q, answer := a } :: rest ∧
      t.port.accepted = s.port.accepted.filter (fun x =>
        decide (x.place ≠ q.place ∧ x.place ∉ rest.map (fun b => b.slot.place))) ∧
      SettledBy s t rest ∧
      t.expiryWaiting = testedWaiting t s.expiryWaiting t.records.holds ∧
      (p.change.finish = .plain → t.supply = s.supply ∧ t.guard = s.guard ∧ t.supplyLow = s.supplyLow) ∧
      (s.port.accepted = [q] → rest = [] ∧ t.clock = s.clock ∧
        t.alarmPending = (if p.change.clearsAlarm then p.alarmFired else s.alarmPending) ∧
        (p.change.finish ≠ .supplyLevels → t.events = s.events ||| p.change.events))) ∧
  ∀ (s : State) (r : SupplyReading) (p : Posting), NoReadWaits s → s.posting = some p → p.answer = none →
    p.change.finish = .plain →
    let waiting := if p.kind = .expiry then none else s.expiryWaiting
    let alarm := if p.change.clearsAlarm then p.alarmFired else s.alarmPending
    (portInv s = true →
      ∃ t rest, exec (.postingEnd r) s = .next t ∧ t.records = p.change.records ∧ t.posting = none ∧
        t.qual = p.change.qual ∧ t.dirHigh = p.change.dirHigh ∧ t.holdsHigh = p.change.holdsHigh ∧
        t.lastKind = s.lastKind ∧ t.supply = s.supply ∧ t.guard = s.guard ∧ t.supplyLow = s.supplyLow ∧
        t.port.delivery = s.port.delivery ++ rest ∧
        t.port.accepted = s.port.accepted.filter (fun x => decide (x.place ∉ rest.map (fun b => b.slot.place))) ∧
        SettledBy s t rest ∧ t.expiryWaiting = testedWaiting t waiting t.records.holds ∧
        ((∀ x ∈ s.port.accepted, isReadSlot x = false) →
          t.clock = s.clock ∧ t.alarmPending = alarm ∧ t.events = s.events ||| p.change.events)) ∧
    (running s = true → s.port.accepted = [] → exec (.postingEnd r) s =
      .next { s with
        reading := r
        posting := none
        records := p.change.records
        qual := p.change.qual
        events := s.events ||| p.change.events
        dirHigh := p.change.dirHigh
        holdsHigh := p.change.holdsHigh
        alarmPending := alarm
        expiryWaiting :=
          if s.clock.state = .set ∧ waiting = none then
            (p.change.records.holds.head?.filter (fun h => decide (h.deadline ≤ s.clock.value))).map Hold.id
          else waiting })

/-- EXPIRY_POSTING: granted for the waiting request, it releases that hold if it still stands: the amount returns to
available, the counts fall by 1, HOLD_EXPIRED is set and the floor becomes now; no entry and no total moves. With the hold
gone it changes nothing (R66, R69). Stated here for a card that does not end its retirement by it; see
LastHoldOfAClosingCard. -/
def Obligations.ExpiryReleasesTheWaitingHold : Prop :=
  ∀ (s : State) (id : Nat), NoReadWaits s → arbiterChoice s = some .expiry → s.expiryWaiting = some id →
    (∀ h c, findHold s.records.holds id = some h → tableFind s.records.cards h.slot = some c →
      (c.state ≠ .closing ∨ 1 < c.openHolds) →
      ∃ d, exec .expiryPosting s = .next (internalUnderWay s .expiry (.hold id) (some s.clock.value) d) ∧
        d.records.holds = s.records.holds.filter (fun g => decide (g.id ≠ h.id)) ∧
        tableFind d.records.cards h.slot = some { c with
          available := c.available + h.amount, held := c.held - h.amount, openHolds := c.openHolds - 1,
          lastPostingAt := s.clock.value } ∧
        d.records.openBank = s.records.openBank ∧
        d.records.totals = { s.records.totals with floor := s.clock.value } ∧
        d.records.holdIdCounter = s.records.holdIdCounter ∧ DirectoryKept s.records d.records ∧
        Evaluated s d (withOpenHolds s h.merchant ((merchantOf s.records h.merchant).openHolds - 1)) []
          (0x02#8 ||| latchEvent s.holdsHigh d.holdsHigh.live) ∧ d.dirHigh = s.dirHigh ∧
        d.holdsHigh.latched = (s.holdsHigh.latched || d.holdsHigh.live) ∧
        d.holdsHigh.live = decide (s.records.limits.monitor.holdWatermark ≤ d.records.holds.length) ∧
        ValueKept s d [h.slot] [h.merchant]) ∧
    (findHold s.records.holds id = none →
      exec .expiryPosting s = .next (internalUnderWay s .expiry (.hold id) (some s.clock.value) (startDraft s)))

/-- The records a cutover leaves: the open bank takes the closing role, COMPUTING, with closed at, closed outstanding and
next merchant 0, every figure kept, and the schedule select captured for each merchant that is not UNENROLLED; the new open
bank is zero, with the staged schedules where they are valid and copies otherwise; the period moves on by 1 modulo 8; cards,
holds, merchants, the directory, the limits and outstanding stand (R118, R124, R125). -/
def Obligations.CutoverExchangesTheBanks : Prop :=
  ∀ (r : Records) (now : Nat), tablesCanonical r = true →
    let r' := cutoverRecords r now
    r'.closingBank = { r.openBank with
      state := .computing, closedAt := some now, closedOutstanding := some r.totals.outstanding,
      nextMerchant := some 0, entries := r'.closingBank.entries } ∧
    (∀ m, closingEntry r' m =
      if (merchantOf r m).state = .unenrolled then openEntry r m
      else { openEntry r m with captured := some (merchantOf r m).settings.select }) ∧
    r'.openBank =
      { period := (r.totals.openPeriod + 1) % 8, state := .opened, openedAt := now, closedAt := none,
        openingOutstanding := r.totals.outstanding, closedOutstanding := none, retiredInPeriod := 0,
        scheduleA := if r.stagedAValid then r.stagedA else r.openBank.scheduleA,
        scheduleB := if r.stagedBValid then r.stagedB else r.openBank.scheduleB,
        saturated := false, nextMerchant := none, entries := [] } ∧
    r'.stagedAValid = false ∧ r'.stagedBValid = false ∧
    r'.totals = { r.totals with openPeriod := (r.totals.openPeriod + 1) % 8 } ∧
    r'.cards = r.cards ∧ r'.merchants = r.merchants ∧ HoldsKept r r' ∧ DirectoryKept r r' ∧ r'.limits = r.limits ∧
    tablesCanonical r' = true

/-- STATEMENT_STEP: the statement of the closing bank's next merchant is written into its entry, its D_out into the open
entry's D_in, next merchant moves to the lowest due merchant above it, or to 512 with the bank READY and STATEMENTS_READY
set; DEFICIT of the merchant is evaluated on the open entry with its new D_in, and REFUND_RATIO is not; no other entry, no
card, no hold, no total, no staged schedule and no floor changes (R132, R146, R147, R148, R150, R152, R155). -/
def Obligations.StatementStepWritesTheStatement : Prop :=
  ∀ (s : State) (m : Nat) (sel : Select), NoReadWaits s → arbiterChoice s = some .settlement →
    s.alarmPending = false → latchDue s = none → s.records.closingBank.state = .computing →
    s.records.closingBank.nextMerchant = some m → (closingEntry s.records m).captured = some sel →
    rising s.records.closingBank.entries = true →
    let b := s.records.closingBank
    let st := computeStatement (bankSchedule b sel) (closingEntry s.records m)
    let x := merchantOf s.records m
    let e := openEntry s.records m
    let l := s.records.limits
    let latches := decide (e.r - e.f - e.s + e.k - st.dOut < -(l.monitor.deficitLimit : Int)) && !x.deficitLatched
    ∃ d next, exec .statementStep s = .next (internalUnderWay s .settlement (.step m) none d) ∧
      d.records.closingBank = { b with
        entries := tablePut zeroEntry b.entries m { closingEntry s.records m with statement := some st }
        saturated := b.saturated || st.saturated
        nextMerchant := some next
        state := if next = 512 then .ready else .computing } ∧
      (∀ k, m < k → k < next → (closingEntry s.records k).captured = none) ∧
      (next = 512 ∨ m < next ∧ (closingEntry s.records next).captured.isSome = true) ∧
      openEntry d.records m = { e with dIn := st.dOut } ∧ EntriesKept s.records d.records [m] ∧
      merchantOf d.records m = { x with
        deficitLatched := x.deficitLatched || latches
        salesBlocked := x.salesBlocked || latches && l.device.operate.getLsbD 4 } ∧
      MerchantsKept s.records d.records [m] ∧
      d = { startDraft s with
        records := { s.records with
          closingBank := d.records.closingBank
          merchants := d.records.merchants
          openBank := { s.records.openBank with entries := d.records.openBank.entries } }
        events := (if next = 512 then 0x08#8 else 0x00#8) ||| (if latches then 0x40#8 else 0x00#8) }

/-- LATCH_POSTING: the due head of the Qualification List is taken from the list; with REFUND_RATIO live and not latched it
latches, blocks refunds when operate is on, sets CONDITION_LATCHED and writes the floor; otherwise no record changes (R155,
R158). -/
def Obligations.LatchPostingTakesTheDueHead : Prop :=
  ∀ (s : State) (k : Qual) (rest : List Qual), NoReadWaits s → arbiterChoice s = some .settlement →
    s.alarmPending = false → s.clock.state = .set → s.qual = k :: rest → k.due ≤ s.clock.value →
    let x := merchantOf s.records k.merchant
    let e := openEntry s.records k.merchant
    let l := s.records.limits
    let live := (l.monitor.refundFloor : Int) ≤ e.f ∧ e.r * l.monitor.ratio < e.f * 65536
    let kept := s.qual.filter (fun y => decide (y.merchant ≠ k.merchant))
    (live → x.refundLatched = false →
      exec .latchPosting s = .next (internalUnderWay s .settlement (.latch k.merchant) (some s.clock.value)
        { startDraft s with
          records := merchantWritten s k.merchant
            { x with refundLatched := true, refundsBlocked := x.refundsBlocked || l.device.operate.getLsbD 5 }
          qual := kept
          events := 0x40#8 })) ∧
    (¬ live ∨ x.refundLatched = true →
      exec .latchPosting s = .next (internalUnderWay s .settlement (.latch k.merchant) (some s.clock.value)
        { startDraft s with qual := kept }))

/-! Cards (chapter 3) -/

/-- CARD_ISSUE that passes its checks: the serial is placed in the slot the lookup handed back, the card record is the one of
R34, S, the postings count and outstanding rise, the merchant's conditions and DIRECTORY_HIGH are evaluated, the floor
becomes now, and nothing else changes (R19, R32, R33, R34, R152). That the response carries the slot index is entry 35, and
that both conditions of the merchant are evaluated is entry 21 (both DEDUCED). -/
def Obligations.CardIssueCreatesTheCard : Prop :=
  ∀ (s : State) (x m a v : Nat) (q : Slot) (j : Nat), Granted s (.cardIssue x m a v) q →
    Trading s.records m → (merchantOf s.records m).settings.salesPermitted = true →
    (merchantOf s.records m).salesBlocked = false → a ≤ s.records.limits.value.cap →
    lookup s.records.directory x = { slot := none, free := some j } →
    let now := s.clock.value
    let e := openEntry s.records m
    let o := s.records.totals.outstanding
    let v' := if v = 0 then none else some (min (now + v) 4294967295)
    ∃ d, exec (.cardIssue x m a v) s =
        .next (underWay s q d (answer .ok (field 2 j ++ field 4 a ++ optTimeField v'))) ∧
      slotState d.records.directory j = .used x ∧
      (∀ k, k ≠ j → slotState d.records.directory k = slotState s.records.directory k) ∧
      d.records.occupancy = s.records.occupancy + 1 ∧
      tableFind d.records.cards j = some
        { serial := x, state := .active, locks := { host := false, velocity := false }, available := a, held := 0,
          openHolds := 0, issuer := m, issuedAt := now, lastPostingAt := now, validUntil := v', windowStart := now,
          velocityCount := 0, velocityLatched := false, retireReason := none, retiredAt := none } ∧
      openEntry d.records m =
        { e with s := satPos (e.s + a), postings := min (e.postings + 1) 4294967295 } ∧
      d.records.totals = { s.records.totals with outstanding := satPos (o + a), floor := now } ∧
      SaturatedBy s d (overflows (e.s + a) || overflows (o + a)) ∧ RetiredKept s.records d.records ∧
      CountsKept s.records d.records ∧ HoldsKept s.records d.records ∧
      d.dirHigh.live = decide (s.records.limits.monitor.dirWatermark ≤ s.records.occupancy + 1) ∧
      d.dirHigh.latched = (s.dirHigh.latched || d.dirHigh.live) ∧ d.holdsHigh = s.holdsHigh ∧
      Evaluated s d s.records.merchants [m] (latchEvent s.dirHigh d.dirHigh.live) ∧ ValueKept s d [j] [m]

/-- CARD_RELOAD and REFUND that pass their checks: available rises by the amount, S or F and the postings count of the
merchant and outstanding rise, the merchant's conditions are evaluated, the floor becomes now, and nothing else changes (R35,
R72, R73, R152; that a reload evaluates both conditions is entry 21, DEDUCED). -/
def Obligations.ReloadAndRefundCreditTheCard : Prop :=
  ∀ (s : State) (x m a : Nat) (q : Slot) (j : Nat) (c : Card), cardOf s.records x = some (j, c) → Spendable s c →
    Trading s.records m → c.available + c.held + a ≤ s.records.limits.value.cap →
    let now := s.clock.value
    let e := openEntry s.records m
    let o := s.records.totals.outstanding
    let credited := fun (d : Draft) (e' : Entry) (hit : Bool) =>
      tableFind d.records.cards j = some { c with available := c.available + a, lastPostingAt := now } ∧
      openEntry d.records m = { e' with postings := min (e.postings + 1) 4294967295 } ∧
      d.records.totals = { s.records.totals with outstanding := satPos (o + a), floor := now } ∧
      SaturatedBy s d (hit || overflows (o + a)) ∧ RetiredKept s.records d.records ∧
      CountsKept s.records d.records ∧ HoldsKept s.records d.records ∧ DirectoryKept s.records d.records ∧
      FlagsKept s d ∧ Evaluated s d s.records.merchants [m] 0x00#8 ∧ ValueKept s d [j] [m]
    let told := answer .ok (field 4 (c.available + a) ++ field 4 c.held)
    (Granted s (.cardReload x m a) q → (merchantOf s.records m).settings.salesPermitted = true →
      (merchantOf s.records m).salesBlocked = false →
      ∃ d, exec (.cardReload x m a) s = .next (underWay s q d told) ∧
        credited d { e with s := satPos (e.s + a) } (overflows (e.s + a))) ∧
    (Granted s (.refund x m a) q → (merchantOf s.records m).settings.refundsPermitted = true →
      (merchantOf s.records m).refundsBlocked = false →
      ∃ d, exec (.refund x m a) s = .next (underWay s q d told) ∧
        credited d { e with f := satPos (e.f + a) } (overflows (e.f + a)))

/-- CARD_LOCK (R36): every case of the rule. An ACTIVE card, or a LOCKED one without HOST, gains HOST, is LOCKED and takes
now as its last posting; a LOCKED card that has HOST is left as it is and the floor stands; the refusals change nothing. -/
def Obligations.CardLockAddsHost : Prop :=
  ∀ (s : State) (x : Nat) (q : Slot), Granted s (.cardLock x) q →
    (cardOf s.records x = none →
      exec (.cardLock x) s = .next (underWay s q (startDraft s) (refuse .noCard))) ∧
    (∀ j c, cardOf s.records x = some (j, c) →
      (c.state = .closing → exec (.cardLock x) s = .next (underWay s q (startDraft s) (refuse .cardClosing))) ∧
      (c.state = .retired → exec (.cardLock x) s = .next (underWay s q (startDraft s) (refuse .cardRetired))) ∧
      (c.state = .active ∨ c.state = .locked ∧ c.locks.host = false →
        exec (.cardLock x) s = .next (underWay s q
          (changed s (cardWritten s j
            { c with state := .locked, locks := { c.locks with host := true }, lastPostingAt := s.clock.value }))
          (answer .ok (field 1 1 ++ field 1 (1 + 2 * c.locks.velocity.toNat))))) ∧
      (c.state = .locked → c.locks.host = true →
        exec (.cardLock x) s = .next (underWay s q (startDraft s)
          (answer .ok (field 1 1 ++ field 1 (1 + 2 * c.locks.velocity.toNat)))))) ∧
    namedSerials s.records (.cardLock x) = [x] ∧ isRead (.cardLock x) = false

/-- CARD_UNLOCK (R37): every case of the rule. A LOCKED card loses HOST if it is there; it is ACTIVE when no cause is left and
stays LOCKED while VELOCITY remains; last posting at becomes now if HOST was there. An ACTIVE card, and a LOCKED one whose
sole cause is VELOCITY, are left as they are and the floor stands; the refusals change nothing. -/
def Obligations.CardUnlockRemovesHost : Prop :=
  ∀ (s : State) (x : Nat) (q : Slot), Granted s (.cardUnlock x) q →
    (cardOf s.records x = none →
      exec (.cardUnlock x) s = .next (underWay s q (startDraft s) (refuse .noCard))) ∧
    (∀ j c, cardOf s.records x = some (j, c) →
      (c.state = .closing → exec (.cardUnlock x) s = .next (underWay s q (startDraft s) (refuse .cardClosing))) ∧
      (c.state = .retired → exec (.cardUnlock x) s = .next (underWay s q (startDraft s) (refuse .cardRetired))) ∧
      (c.state = .active →
        exec (.cardUnlock x) s = .next (underWay s q (startDraft s)
          (answer .ok (field 1 0 ++ field 1 (c.locks.host.toNat + 2 * c.locks.velocity.toNat))))) ∧
      (c.state = .locked → c.locks.host = false → c.locks.velocity = true →
        exec (.cardUnlock x) s = .next (underWay s q (startDraft s) (answer .ok (field 1 1 ++ field 1 2)))) ∧
      (c.state = .locked → c.locks.host = true ∨ c.locks.velocity = false →
        exec (.cardUnlock x) s = .next (underWay s q
          (changed s (cardWritten s j
            { c with
              state := if c.locks.velocity then .locked else .active
              locks := { c.locks with host := false }
              lastPostingAt := if c.locks.host then s.clock.value else c.lastPostingAt }))
          (answer .ok (field 1 (if c.locks.velocity then 1 else 0) ++
            field 1 (if c.locks.velocity then 2 else 0)))))) ∧
    namedSerials s.records (.cardUnlock x) = [x] ∧ isRead (.cardUnlock x) = false

/-- CARD_RETIRE of an ACTIVE or LOCKED card. With open holds it is DEFERRED: the card becomes CLOSING with its reason and no
lock cause, and no value moves. Without, it is finalised: B leaves outstanding into merchant 0's K (CASH_OUT) or into retired
value and retired in period (CLOSED, EXPIRED), and the card is RETIRED with available 0. A cash-out evaluates merchant 0's
conditions (R39, R41, R152; both of them, by entry 21, DEDUCED). -/
def Obligations.CardRetireDefersOrFinalises : Prop :=
  ∀ (s : State) (x : Nat) (reason : RetireReason) (q : Slot) (j : Nat) (c : Card),
    Granted s (.cardRetire x reason) q → cardOf s.records x = some (j, c) →
    (c.state = .active ∨ c.state = .locked) →
    let now := s.clock.value
    let o := s.records.totals.outstanding
    let told := field 4 c.available ++ field 4 c.held ++ field 1 c.openHolds
    let closed := fun (d : Draft) =>
      tableFind d.records.cards j = some
        { c with
          state := .retired, locks := { host := false, velocity := false }, available := 0, lastPostingAt := now,
          retireReason := some reason, retiredAt := some now } ∧
      d.records.totals.outstanding = satPos (o - c.available) ∧ d.records.totals.floor = now ∧
      CountsKept s.records d.records ∧ HoldsKept s.records d.records ∧ DirectoryKept s.records d.records ∧
      FlagsKept s d
    (0 < c.openHolds →
      exec (.cardRetire x reason) s = .next (underWay s q
        (changed s (cardWritten s j
          { c with
            state := .closing, locks := { host := false, velocity := false }, lastPostingAt := now,
            retireReason := some reason }))
        (answer .deferred told))) ∧
    (c.openHolds = 0 → reason = .cashOut →
      let e := openEntry s.records 0
      ∃ d, exec (.cardRetire x reason) s = .next (underWay s q d (answer .ok told)) ∧ closed d ∧
        openEntry d.records 0 =
          { e with k := satPos (e.k + c.available), postings := min (e.postings + 1) 4294967295 } ∧
        RetiredKept s.records d.records ∧ SaturatedBy s d (overflows (e.k + c.available) || overflows (o - c.available)) ∧
        Evaluated s d s.records.merchants [0] 0x00#8 ∧ ValueKept s d [j] [0]) ∧
    (c.openHolds = 0 → (reason = .closed ∨ reason = .expired) →
      ∃ d, exec (.cardRetire x reason) s = .next (underWay s q d (answer .ok told)) ∧ closed d ∧
        d.records.totals.retiredValue = satPos (s.records.totals.retiredValue + c.available) ∧
        d.records.openBank.retiredInPeriod = satPos (s.records.openBank.retiredInPeriod + c.available) ∧
        SaturatedBy s d (overflows (s.records.totals.retiredValue + c.available) ||
          overflows (s.records.openBank.retiredInPeriod + c.available) || overflows (o - c.available)) ∧
        Evaluated s d s.records.merchants [] 0x00#8 ∧ ValueKept s d [j] [])

/-- CARD_TRANSFER that passes its checks: the source is RETIRED as TRANSFERRED with available 0, and its value joins an
existing ACTIVE target, or a new card placed in the slot the lookup handed back, with issuer 0 and the source's valid until;
no entry, no header and no total but the floor changes (R43, R44, R45). The card concerned of an approved transfer has no
stated value (entry 13), and that the response carries the target's slot is entry 35 (DEDUCED). -/
def Obligations.CardTransferMovesTheValue : Prop :=
  ∀ (s : State) (x y : Nat) (q : Slot) (i : Nat) (c : Card), Granted s (.cardTransfer x y) q →
    cardOf s.records x = some (i, c) → x ≠ y → (c.state = .active ∨ c.state = .locked) → c.openHolds = 0 →
    let now := s.clock.value
    let retired : Card :=
      { c with
        state := .retired, locks := { host := false, velocity := false }, available := 0, lastPostingAt := now,
        retireReason := some .transferred, retiredAt := some now }
    (∀ j t, cardOf s.records y = some (j, t) → t.state = .active → j ≠ i →
      t.available + t.held + c.available ≤ s.records.limits.value.cap →
      exec (.cardTransfer x y) s = .next (underWay s q
        (changed s
          { cardWritten s i retired with
            cards := tableInsert
              (tableInsert s.records.cards j { t with available := t.available + c.available, lastPostingAt := now })
              i retired })
        (answer .ok (openBytes 1 ++ field 4 c.available ++ field 2 j ++ field 4 (t.available + c.available) ++
          field 1 0)))) ∧
    (∀ j, cardOf s.records y = none → (lookup s.records.directory y).free = some j → j ≠ i →
      c.available ≤ s.records.limits.value.cap →
      ∃ d, exec (.cardTransfer x y) s = .next (underWay s q d
          (answer .ok (openBytes 1 ++ field 4 c.available ++ field 2 j ++ field 4 c.available ++ field 1 1))) ∧
        tableFind d.records.cards i = some retired ∧
        tableFind d.records.cards j = some
          { serial := y, state := .active, locks := { host := false, velocity := false }, available := c.available,
            held := 0, openHolds := 0, issuer := 0, issuedAt := now, lastPostingAt := now,
            validUntil := c.validUntil, windowStart := now, velocityCount := 0, velocityLatched := false,
            retireReason := none, retiredAt := none } ∧
        slotState d.records.directory j = .used y ∧
        (∀ k, k ≠ j → slotState d.records.directory k = slotState s.records.directory k) ∧
        d.records.occupancy = s.records.occupancy + 1 ∧ d.records.openBank = s.records.openBank ∧
        Evaluated s d s.records.merchants [] (latchEvent s.dirHigh d.dirHigh.live) ∧
        d.dirHigh.latched = (s.dirHigh.latched || d.dirHigh.live) ∧
        d.records.totals = { s.records.totals with floor := now } ∧ HoldsKept s.records d.records ∧
        d.dirHigh.live = decide (s.records.limits.monitor.dirWatermark ≤ s.records.occupancy + 1) ∧
        d.holdsHigh = s.holdsHigh ∧ ValueKept s d [i, j] [])

/-- CARD_PURGE of a RETIRED card: its record is removed, its slot vacated with the cleanup of R23, the occupancy count falls
by 1, DIRECTORY_HIGH is evaluated and the floor becomes now; a card not RETIRED is answered NOT_RETIRED with no change (R22,
R46, R47). That the response carries the slot vacated is entry 35 (DEDUCED). -/
def Obligations.CardPurgeVacatesTheSlot : Prop :=
  ∀ (s : State) (x : Nat) (q : Slot) (j : Nat) (c : Card), Granted s (.cardPurge x) q →
    cardOf s.records x = some (j, c) →
    (c.state = .retired →
      let dir := decide (s.records.limits.monitor.dirWatermark ≤ s.records.occupancy - 1)
      exec (.cardPurge x) s = .next (underWay s q
        { startDraft s with
          records := { s.records with
            directory := vacate s.records.directory j
            occupancy := s.records.occupancy - 1
            cards := tableErase s.records.cards j
            totals := { s.records.totals with floor := s.clock.value } }
          dirHigh := { live := dir, latched := s.dirHigh.latched || dir }
          events := if dir && !s.dirHigh.latched then 0x40#8 else 0x00#8 }
        (answer .ok (field 2 j)))) ∧
    (c.state ≠ .retired → exec (.cardPurge x) s = .next (underWay s q (startDraft s) (refuse .notRetired))) ∧
    tableFind (tableErase s.records.cards j) j = none ∧
    ∀ k, k ≠ j → tableFind (tableErase s.records.cards j) k = tableFind s.records.cards k

/-- The tables of refusals of the card requests, in their order: the first check that fails gives the answer, and nothing
changes. CARD_ISSUE (R33), CARD_RELOAD (R35), CARD_RETIRE (R39), CARD_TRANSFER with the card concerned (R43) and CARD_PURGE of
a serial not found (R46). -/
def Obligations.CardRefusalsInOrder : Prop :=
  ∀ (s : State) (x : Nat) (q : Slot),
    let now := s.clock.value
    let cap := s.records.limits.value.cap
    let answered := fun (i : Instr) (a : Answer) => exec i s = .next (underWay s q (startDraft s) a)
    (∀ m a v r, Granted s (.cardIssue x m a v) q →
      firstFailure (salesChecks (merchantOf s.records m) ++ [(decide (a ≤ cap), .capExceeded),
        (decide ((lookup s.records.directory x).slot = none), .cardExists),
        (decide ((lookup s.records.directory x).free ≠ none), .directoryFull)]) = some r →
      answered (.cardIssue x m a v) (refuse r)) ∧
    (∀ m a, Granted s (.cardReload x m a) q →
      (cardOf s.records x = none → answered (.cardReload x m a) (refuse .noCard)) ∧
      ∀ j c r, cardOf s.records x = some (j, c) →
        firstFailure (spendableChecks now c ++ salesChecks (merchantOf s.records m) ++
          [(decide (c.available + c.held + a ≤ cap), .capExceeded)]) = some r →
        answered (.cardReload x m a) (refuse r)) ∧
    (∀ reason, Granted s (.cardRetire x reason) q →
      (cardOf s.records x = none → answered (.cardRetire x reason) (refuse .noCard)) ∧
      ∀ j c, cardOf s.records x = some (j, c) →
        (c.state = .closing → answered (.cardRetire x reason) (refuse .cardClosing)) ∧
        (c.state = .retired → answered (.cardRetire x reason) (refuse .cardRetired))) ∧
    (∀ y, Granted s (.cardTransfer x y) q →
      let source := fun (c : Card) => firstFailure [(decide (y ≠ x), .badParameter),
        (decide (c.state ≠ .closing), .cardClosing), (decide (c.state ≠ .retired), .cardRetired),
        (decide (c.openHolds = 0), .holdsOpen)]
      (cardOf s.records x = none → answered (.cardTransfer x y) (answer .noCard (field 1 0))) ∧
      ∀ i c, cardOf s.records x = some (i, c) →
        (∀ r, source c = some r → answered (.cardTransfer x y) (answer r (field 1 0))) ∧
        (∀ j t r, source c = none → cardOf s.records y = some (j, t) →
          firstFailure [(decide (t.state ≠ .locked), .cardLocked), (decide (t.state ≠ .closing), .cardClosing),
            (decide (t.state ≠ .retired), .cardRetired),
            (decide (t.available + t.held + c.available ≤ cap), .capExceeded)] = some r →
          answered (.cardTransfer x y) (answer r (field 1 1))) ∧
        ∀ r, source c = none → cardOf s.records y = none →
          firstFailure [(decide ((lookup s.records.directory y).free ≠ none), .directoryFull),
            (decide (c.available ≤ cap), .capExceeded)] = some r →
          answered (.cardTransfer x y) (answer r (field 1 1))) ∧
    (Granted s (.cardPurge x) q → cardOf s.records x = none → answered (.cardPurge x) (refuse .noCard))

/-- A lookup finds a serial that was placed in the slot it handed back, and other placed serials are still found where they
were. Vacating a slot, with its cleanup, leaves every other serial found where it was and none found that was not, and the
serial that stood in that slot alone is found no more; this is what R16, R18, R19, R22 and R23 are for (R24). -/
def Obligations.LookupFindsWhatWasPlaced : Prop :=
  (∀ (dir : Table DirSlot) (x j : Nat), lookup dir x = { slot := none, free := some j } →
    let dir' := tablePut .empty dir j (.used x)
    (lookup dir' x).slot = some j ∧
    (∀ y k, y ≠ x → (lookup dir y).slot = some k → (lookup dir' y).slot = some k) ∧
    (∀ y k, (lookup dir y).slot = some k → slotState dir k = .used y)) ∧
  ∀ (dir : Table DirSlot) (x j : Nat), j < 32768 → slotState dir j = .used x →
    (∀ y k, y ≠ x → (lookup dir y).slot = some k → (lookup (vacate dir j) y).slot = some k) ∧
    (∀ y, (lookup dir y).slot = none → (lookup (vacate dir j) y).slot = none) ∧
    ((∀ k, slotState dir k = .used x → k = j) → (lookup (vacate dir j) x).slot = none)

/-- A vacated slot before a USED or VACATED one stays VACATED and no other slot changes; before an EMPTY one it and the
unbroken VACATED run just before it, which may wrap past slot 0, become EMPTY, and every other slot stands (R22, R23). -/
def Obligations.CleanupEmptiesTheRun : Prop :=
  ∀ (dir : Table DirSlot) (j x : Nat), j < 32768 → slotState dir j = .used x →
    (slotState dir ((j + 1) % 32768) ≠ .empty →
      ∀ k, slotState (vacate dir j) k = if k = j then .vacated else slotState dir k) ∧
    (slotState dir ((j + 1) % 32768) = .empty →
      ∃ n, (∀ i, 1 ≤ i → i ≤ n → slotState dir (prevSlot^[i] j) = .vacated) ∧
        slotState dir (prevSlot^[n + 1] j) ≠ .vacated ∧
        (∀ i, i ≤ n → slotState (vacate dir j) (prevSlot^[i] j) = .empty) ∧
        ∀ k, (∀ i, i ≤ n → k ≠ prevSlot^[i] j) → slotState (vacate dir j) k = slotState dir k)

/-! Holds, redemptions and refunds (chapter 4) -/

/-- REDEEM approved for X, the whole amount or, where the merchant allows it, what is available: available falls by X, held
stands, R, the postings count and outstanding move by X, the spend is counted on the card, the merchant's conditions are
evaluated, the floor becomes now, and nothing else changes; with nothing approved it is answered INSUFFICIENT with no change
(R55, R56, R152). -/
def Obligations.RedeemTakesTheApprovedAmount : Prop :=
  ∀ (s : State) (x m a : Nat) (q : Slot) (j : Nat) (c : Card), Granted s (.redeem x m a) q →
    cardOf s.records x = some (j, c) → Spendable s c → Trading s.records m →
    let now := s.clock.value
    let e := openEntry s.records m
    let o := s.records.totals.outstanding
    let allowed := (merchantOf s.records m).settings.partialAllowed
    (∀ amt r, (a ≤ c.available ∧ amt = a ∧ r = Result.ok ∨
        c.available < a ∧ 0 < c.available ∧ allowed = true ∧ amt = c.available ∧ r = .partialApproval) →
      let c' := spendCard s.records.limits now { c with available := c.available - amt, lastPostingAt := now }
      ∃ d, exec (.redeem x m a) s = .next (underWay s q d
          (answer r (field 4 amt ++ field 4 (c.available - amt) ++ field 4 c.held ++
            field 1 (cardStateCode c'.state)))) ∧
        tableFind d.records.cards j = some c' ∧
        openEntry d.records m = { e with r := satPos (e.r + amt), postings := min (e.postings + 1) 4294967295 } ∧
        d.records.totals = { s.records.totals with outstanding := satPos (o - amt), floor := now } ∧
        SaturatedBy s d (overflows (e.r + amt) || overflows (o - amt)) ∧ RetiredKept s.records d.records ∧
        CountsKept s.records d.records ∧ HoldsKept s.records d.records ∧ DirectoryKept s.records d.records ∧
        FlagsKept s d ∧ Evaluated s d s.records.merchants [m] (spendBit s.records.limits now c) ∧
        ValueKept s d [j] [m]) ∧
    (c.available < a → (c.available = 0 ∨ allowed = false) →
      exec (.redeem x m a) s = .next (underWay s q (startDraft s) (refuse .insufficient)))

/-- HOLD_PLACE approved for X: an entry with a free id, the merchant's tolerance and the clamped deadline joins the Hold
Table, available falls and held rises by X, the open holds of card and merchant rise by 1, the counter becomes the id after
the one allocated, the spend is counted, HOLDS_HIGH is evaluated and the floor becomes now; no bank entry and no outstanding
moves, no Qualification List entry and nothing else (R53, R54, R57, R58, R59). -/
def Obligations.HoldPlaceReservesTheAmount : Prop :=
  ∀ (s : State) (x m a life : Nat) (q : Slot) (j : Nat) (c : Card) (amt : Nat) (r : Result),
    Granted s (.holdPlace x m a life) q → cardOf s.records x = some (j, c) → Spendable s c → Trading s.records m →
    c.openHolds < 4 → s.records.holds.length < 4096 →
    (a ≤ c.available ∧ amt = a ∧ r = .ok ∨
      c.available < a ∧ 0 < c.available ∧ (merchantOf s.records m).settings.partialAllowed = true ∧
        amt = c.available ∧ r = .partialApproval) →
    let now := s.clock.value
    let limits := s.records.limits.value
    let id := allocateHoldId s.records.holds s.records.holdIdCounter
    let deadline := min (now + (if life < limits.holdMin then limits.holdMin
      else if limits.holdMax < life then limits.holdMax else life)) 4294967295
    let h : Hold :=
      { id := id, slot := j, merchant := m, amount := amt,
        tolerance := (merchantOf s.records m).settings.tolerance, createdAt := now, deadline := deadline }
    let c' := spendCard s.records.limits now
      { c with
        available := c.available - amt, held := c.held + amt, openHolds := c.openHolds + 1, lastPostingAt := now }
    ∃ d, exec (.holdPlace x m a life) s = .next (underWay s q d
        (answer r (field 2 id ++ field 4 amt ++ field 4 deadline ++ field 4 (c.available - amt) ++
          field 4 (c.held + amt) ++ field 1 (cardStateCode c'.state)))) ∧
      d.records.holds = insertHold h s.records.holds ∧
      d.records.holdIdCounter = (if id = 65535 then 1 else id + 1) ∧
      tableFind d.records.cards j = some c' ∧
      Evaluated s d (withOpenHolds s m ((merchantOf s.records m).openHolds + 1)) []
        (spendBit s.records.limits now c ||| latchEvent s.holdsHigh d.holdsHigh.live) ∧
      d.records.openBank = s.records.openBank ∧ d.records.totals = { s.records.totals with floor := now } ∧
      DirectoryKept s.records d.records ∧ d.dirHigh = s.dirHigh ∧
      d.holdsHigh.live = decide (s.records.limits.monitor.holdWatermark ≤ s.records.holds.length + 1) ∧
      d.holdsHigh.latched = (s.holdsHigh.latched || d.holdsHigh.live) ∧
      d.qual = s.qual ∧ ValueKept s d [j] [m]

/-- The hold id allocated is the first, from the counter on, that no entry carries (R54); and the Hold Table with that entry
added has one entry more, keeps every other, and stands in deadline order if it did before (R52). -/
def Obligations.HoldTableKeepsItsOrder : Prop :=
  (∀ (holds : List Hold) (counter : Nat), 1 ≤ counter → counter ≤ 65535 → holds.length ≤ 4096 →
    ∃ n, allocateHoldId holds counter = nextHoldId^[n] counter ∧
      (∀ i, i < n → (findHold holds (nextHoldId^[i] counter)).isSome = true) ∧
      findHold holds (allocateHoldId holds counter) = none ∧
      1 ≤ allocateHoldId holds counter ∧ allocateHoldId holds counter ≤ 65535) ∧
  ∀ (holds : List Hold) (h : Hold), (insertHold h holds).length = holds.length + 1 ∧
    (∀ g, g ∈ insertHold h holds ↔ g = h ∨ g ∈ holds) ∧
    (holds.Pairwise (fun a b => holdBefore a b = true) → findHold holds h.id = none →
      (insertHold h holds).Pairwise (fun a b => holdBefore a b = true)) ∧
    (holds.Pairwise (fun a b => holdBefore a b = true) → ∀ id,
      (eraseHold holds id).Pairwise (fun a b => holdBefore a b = true) ∧ findHold (eraseHold holds id) id = none)

/-- HOLD_COMPLETE of a standing hold of the merchant before its deadline. Above the completion limit it is answered
OVER_TOLERANCE with the limit and nothing changes; up to H it is approved in full, the rest of the hold going back to
available; beyond H it draws the extra, or what is available where the merchant allows it, or is answered INSUFFICIENT. An
approval removes the entry, moves R and outstanding by X, evaluates the merchant's conditions and HOLDS_HIGH and writes the
floor (R60 to R65). Stated here for a card that does
not end its retirement by it; see LastHoldOfAClosingCard. -/
def Obligations.HoldCompleteTakesValue : Prop :=
  ∀ (s : State) (id m a : Nat) (q : Slot) (h : Hold) (c : Card), Granted s (.holdComplete id m a) q →
    findHold s.records.holds id = some h → h.merchant = m → tableFind s.records.cards h.slot = some c →
    s.clock.value < h.deadline →
    let now := s.clock.value
    let e := openEntry s.records m
    let o := s.records.totals.outstanding
    let limit := h.amount + h.amount * h.tolerance / 10000
    let allowed := (merchantOf s.records m).settings.partialAllowed
    let refused := fun (r : Result) =>
      exec (.holdComplete id m a) s =
        .next (underWay s q (startDraft s) (answer r (List.replicate 13 (some 0x00#8) ++ field 5 limit)))
    (limit < a → refused .overTolerance) ∧
    (a ≤ limit → h.amount < a → c.available < a - h.amount → allowed = false → refused .insufficient) ∧
    (∀ amt available r, (c.state ≠ .closing ∨ 1 < c.openHolds) →
      (a ≤ limit ∧ a ≤ h.amount ∧ amt = a ∧ available = c.available + (h.amount - a) ∧ r = Result.ok ∨
        a ≤ limit ∧ h.amount < a ∧ a - h.amount ≤ c.available ∧ amt = a ∧
          available = c.available - (a - h.amount) ∧ r = .ok ∨
        a ≤ limit ∧ h.amount < a ∧ c.available < a - h.amount ∧ allowed = true ∧ amt = h.amount + c.available ∧
          available = 0 ∧ r = .partialApproval) →
      ∃ d, exec (.holdComplete id m a) s = .next (underWay s q d
          (answer r (field 4 amt ++ field 4 available ++ field 4 (c.held - h.amount) ++
            field 1 (cardStateCode c.state) ++ field 5 limit))) ∧
        d.records.holds = s.records.holds.filter (fun g => decide (g.id ≠ h.id)) ∧
        tableFind d.records.cards h.slot = some { c with
          available := available, held := c.held - h.amount, openHolds := c.openHolds - 1, lastPostingAt := now } ∧
        Evaluated s d (withOpenHolds s m ((merchantOf s.records m).openHolds - 1)) [m]
          (latchEvent s.holdsHigh d.holdsHigh.live) ∧
        openEntry d.records m = { e with r := satPos (e.r + amt), postings := min (e.postings + 1) 4294967295 } ∧
        d.records.totals = { s.records.totals with outstanding := satPos (o - amt), floor := now } ∧
        SaturatedBy s d (overflows (e.r + amt) || overflows (o - amt)) ∧ RetiredKept s.records d.records ∧
        d.records.holdIdCounter = s.records.holdIdCounter ∧ DirectoryKept s.records d.records ∧
        d.dirHigh = s.dirHigh ∧
        d.holdsHigh.live = decide (s.records.limits.monitor.holdWatermark ≤ d.records.holds.length) ∧
        d.holdsHigh.latched = (s.holdsHigh.latched || d.holdsHigh.live) ∧ ValueKept s d [h.slot] [m])

/-- HOLD_VOID of a standing hold of the merchant, and HOLD_COMPLETE of one at or past its deadline: the hold is released, its
amount going back to available, no entry and no outstanding moves, the floor becomes now. Before the deadline a void is
answered OK; at or past it both are answered HOLD_EXPIRED and set that raw event; a missing hold and another merchant's are
refused with no change (R60, R61, R66, R67). Stated here for a card that does not end its retirement by it; see
LastHoldOfAClosingCard. -/
def Obligations.HoldVoidReleasesTheHold : Prop :=
  ∀ (s : State) (id m : Nat) (q : Slot),
    (Granted s (.holdVoid id m) q → findHold s.records.holds id = none →
      exec (.holdVoid id m) s = .next (underWay s q (startDraft s) (refuse .noHold))) ∧
    (∀ h, Granted s (.holdVoid id m) q → findHold s.records.holds id = some h → h.merchant ≠ m →
      exec (.holdVoid id m) s = .next (underWay s q (startDraft s) (refuse .wrongMerchant))) ∧
    ∀ h c, findHold s.records.holds id = some h → h.merchant = m → tableFind s.records.cards h.slot = some c →
      (c.state ≠ .closing ∨ 1 < c.openHolds) →
      let now := s.clock.value
      let told := field 4 h.amount ++ field 4 (c.available + h.amount) ++ field 4 (c.held - h.amount) ++
        field 1 (cardStateCode c.state)
      let released := fun (d : Draft) (event : BitVec 8) =>
        d.records.holds = s.records.holds.filter (fun g => decide (g.id ≠ h.id)) ∧
        tableFind d.records.cards h.slot = some { c with
          available := c.available + h.amount, held := c.held - h.amount, openHolds := c.openHolds - 1,
          lastPostingAt := now } ∧
        Evaluated s d (withOpenHolds s m ((merchantOf s.records m).openHolds - 1)) []
          (event ||| latchEvent s.holdsHigh d.holdsHigh.live) ∧
        d.records.openBank = s.records.openBank ∧ d.records.totals = { s.records.totals with floor := now } ∧
        d.records.holdIdCounter = s.records.holdIdCounter ∧ DirectoryKept s.records d.records ∧
        d.dirHigh = s.dirHigh ∧
        d.holdsHigh.live = decide (s.records.limits.monitor.holdWatermark ≤ d.records.holds.length) ∧
        d.holdsHigh.latched = (s.holdsHigh.latched || d.holdsHigh.live) ∧ ValueKept s d [h.slot] [m]
      (Granted s (.holdVoid id m) q → now < h.deadline →
        ∃ d, exec (.holdVoid id m) s = .next (underWay s q d (answer .ok told)) ∧ released d 0x00#8) ∧
      (Granted s (.holdVoid id m) q → h.deadline ≤ now →
        ∃ d, exec (.holdVoid id m) s = .next (underWay s q d (answer .holdExpired told)) ∧ released d 0x02#8) ∧
      ∀ a, Granted s (.holdComplete id m a) q → h.deadline ≤ now →
        ∃ d, exec (.holdComplete id m a) s = .next (underWay s q d
            (answer .holdExpired (told ++ field 5 (h.amount + h.amount * h.tolerance / 10000)))) ∧ released d 0x02#8

/-- The last hold of a CLOSING card ends: by a void or a completion at or past the deadline or a void before it, by the Expiry
Unit, or by an approved completion in each of its three cases. What comes back from the hold returns to available, and in the
same posting the retirement is finalised with the reason recorded and B the available value then (R41, R42, R61, R65, R66,
R67). That the response carries available 0, the value after the posting, is entry 36, that merchant 0's conditions are
evaluated after the hold's merchant's is entry 22, and that both conditions are is entry 21 (all DEDUCED). -/
def Obligations.LastHoldOfAClosingCard : Prop :=
  ∀ (s : State) (id m : Nat) (q : Slot) (h : Hold) (c : Card) (reason : RetireReason),
    findHold s.records.holds id = some h → h.merchant = m → tableFind s.records.cards h.slot = some c →
    c.state = .closing → c.openHolds = 1 → c.retireReason = some reason → reason ≠ .transferred →
    let now := s.clock.value
    let total := s.records.totals.outstanding
    let desk := openEntry s.records 0
    let limit := h.amount + h.amount * h.tolerance / 10000
    let told := fun (x : Nat) => field 4 x ++ field 4 0 ++ field 4 (c.held - h.amount) ++ field 1 3
    let finalised := fun (d : Draft) (b : Nat) (o : Int) (e : Entry) (hit : Bool) (ms : List Nat) (event : BitVec 8) =>
      let evaluated := fun (ms : List Nat) =>
        Evaluated s d (withOpenHolds s m ((merchantOf s.records m).openHolds - 1)) ms
          (event ||| latchEvent s.holdsHigh d.holdsHigh.live)
      d.records.holds = s.records.holds.filter (fun g => decide (g.id ≠ h.id)) ∧
      d.records.holdIdCounter = s.records.holdIdCounter ∧
      tableFind d.records.cards h.slot = some { c with
        state := .retired, locks := { host := false, velocity := false }, available := 0, held := c.held - h.amount,
        openHolds := 0, lastPostingAt := now, retiredAt := some now } ∧
      CardsKept s.records d.records [h.slot] ∧ DirectoryKept s.records d.records ∧ PeriodsKept s.records d.records ∧
      PlainDraft s d ∧ d.dirHigh = s.dirHigh ∧
      d.holdsHigh.live = decide (s.records.limits.monitor.holdWatermark ≤ d.records.holds.length) ∧
      d.holdsHigh.latched = (s.holdsHigh.latched || d.holdsHigh.live) ∧
      d.records.totals.outstanding = satPos (o - b) ∧ d.records.totals.floor = now ∧
      (reason = .cashOut →
        openEntry d.records 0 = { e with k := satPos (e.k + b), postings := min (e.postings + 1) 4294967295 } ∧
        RetiredKept s.records d.records ∧ SaturatedBy s d (hit || overflows (e.k + b) || overflows (o - b)) ∧
        evaluated (ms ++ [0])) ∧
      (reason ≠ .cashOut →
        d.records.totals.retiredValue = satPos (s.records.totals.retiredValue + b) ∧
        d.records.openBank.retiredInPeriod = satPos (s.records.openBank.retiredInPeriod + b) ∧
        SaturatedBy s d (hit || overflows (s.records.totals.retiredValue + b) ||
          overflows (s.records.openBank.retiredInPeriod + b) || overflows (o - b)) ∧
        evaluated ms)
    let released := fun (d : Draft) (event : BitVec 8) =>
      finalised d (c.available + h.amount) total desk false [] event ∧
      EntriesKept s.records d.records (if reason = .cashOut then [0] else [])
    (Granted s (.holdVoid id m) q → now < h.deadline →
      ∃ d, exec (.holdVoid id m) s = .next (underWay s q d (answer .ok (told h.amount))) ∧ released d 0x00#8) ∧
    (Granted s (.holdVoid id m) q → h.deadline ≤ now →
      ∃ d, exec (.holdVoid id m) s = .next (underWay s q d (answer .holdExpired (told h.amount))) ∧
        released d 0x02#8) ∧
    (NoReadWaits s → arbiterChoice s = some .expiry → s.expiryWaiting = some id →
      ∃ d, exec .expiryPosting s = .next (internalUnderWay s .expiry (.hold id) (some now) d) ∧ released d 0x02#8) ∧
    (∀ a, Granted s (.holdComplete id m a) q → h.deadline ≤ now →
      ∃ d, exec (.holdComplete id m a) s =
          .next (underWay s q d (answer .holdExpired (told h.amount ++ field 5 limit))) ∧ released d 0x02#8) ∧
    ∀ a amt b r, Granted s (.holdComplete id m a) q → now < h.deadline → a ≤ limit →
      (a ≤ h.amount ∧ amt = a ∧ b = c.available + (h.amount - a) ∧ r = Result.ok ∨
        h.amount < a ∧ a - h.amount ≤ c.available ∧ amt = a ∧ b = c.available - (a - h.amount) ∧ r = .ok ∨
        h.amount < a ∧ c.available < a - h.amount ∧ (merchantOf s.records m).settings.partialAllowed = true ∧
          amt = h.amount + c.available ∧ b = 0 ∧ r = .partialApproval) →
      let e := openEntry s.records m
      let raised := { e with r := satPos (e.r + amt), postings := min (e.postings + 1) 4294967295 }
      ∃ d, exec (.holdComplete id m a) s = .next (underWay s q d (answer r (told amt ++ field 5 limit))) ∧
        finalised d b (satPos (total - amt)) (if m = 0 then raised else desk)
          (overflows (e.r + amt) || overflows (total - amt)) [m] 0x00#8 ∧
        (m ≠ 0 ∨ reason ≠ .cashOut → openEntry d.records m = raised) ∧
        EntriesKept s.records d.records (if reason = .cashOut then [m, 0] else [m])

/-- The tables of refusals of the spending requests, in their order: the first check that fails gives the answer, and nothing
changes. REDEEM (R55), HOLD_PLACE (R57) and REFUND (R72), with the value test of R56; and of a completion the missing hold and
the wrong merchant, which are judged before the deadline (R60). What else a completion and a void answer is in
HoldCompleteTakesValue and HoldVoidReleasesTheHold. -/
def Obligations.SpendRefusalsInOrder : Prop :=
  ∀ (s : State) (q : Slot),
    let now := s.clock.value
    let refused := fun (i : Instr) (r : Result) => exec i s = .next (underWay s q (startDraft s) (refuse r))
    (∀ x m a,
      (Granted s (.redeem x m a) q → cardOf s.records x = none → refused (.redeem x m a) .noCard) ∧
      (Granted s (.refund x m a) q → cardOf s.records x = none → refused (.refund x m a) .noCard) ∧
      (∀ life, Granted s (.holdPlace x m a life) q → cardOf s.records x = none →
        refused (.holdPlace x m a life) .noCard) ∧
      ∀ j c r, cardOf s.records x = some (j, c) →
        let y := merchantOf s.records m
        let value := decide (a ≤ c.available ∨ 0 < c.available ∧ y.settings.partialAllowed = true)
        (Granted s (.redeem x m a) q →
          firstFailure (spendableChecks now c ++ tradingChecks y ++ [(value, .insufficient)]) = some r →
          refused (.redeem x m a) r) ∧
        (∀ life, Granted s (.holdPlace x m a life) q →
          firstFailure (spendableChecks now c ++ tradingChecks y ++ [(decide (c.openHolds < 4), .cardHoldsFull),
            (decide (s.records.holds.length < 4096), .holdsFull), (value, .insufficient)]) = some r →
          refused (.holdPlace x m a life) r) ∧
        (Granted s (.refund x m a) q →
          firstFailure (spendableChecks now c ++ refundChecks y ++
            [(decide (c.available + c.held + a ≤ s.records.limits.value.cap), .capExceeded)]) = some r →
          refused (.refund x m a) r)) ∧
    ∀ id m a, Granted s (.holdComplete id m a) q →
      (findHold s.records.holds id = none → refused (.holdComplete id m a) .noHold) ∧
      ∀ h, findHold s.records.holds id = some h → h.merchant ≠ m → refused (.holdComplete id m a) .wrongMerchant

/-- An approved spend on a card: the window is opened anew once W has passed and the count rises up to 255; VELOCITY latches
when the count then exceeds V inside the window and the flag was clear, and with operate on the card gains the VELOCITY cause
and an ACTIVE card is LOCKED; every other field stands (R38, R74, R75).
The merchant conditions evaluated on a merchant's open entry: DEFICIT latches when live and not latched, REFUND_RATIO by the
table of R152, each latch blocking sales or refunds when operate is on; nothing else changes (R150, R152, R155). -/
def Obligations.ConditionsEvaluated : Prop :=
  (∀ (l : Limits) (now : Nat) (c : Card),
    let opened := decide (l.monitor.velocityWindow ≤ now - c.windowStart)
    let count := if opened then 1 else min (c.velocityCount + 1) 255
    let start := if opened then now else c.windowStart
    let latches := decide (l.monitor.velocityLimit < count) && decide (now - start < l.monitor.velocityWindow) &&
      !c.velocityLatched
    let locks := latches && l.device.operate.getLsbD 3
    spendCard l now c = { c with
      windowStart := start, velocityCount := count, velocityLatched := c.velocityLatched || latches,
      locks := { c.locks with velocity := c.locks.velocity || locks },
      state := if locks = true ∧ c.state = .active then .locked else c.state } ∧
    spendBit l now c = if latches then 0x40#8 else 0x00#8) ∧
  ∀ (d : Draft) (m : Nat),
    let x := merchantOf d.records m
    let e := openEntry d.records m
    let l := d.records.limits
    let deficit := decide (e.r - e.f - e.s + e.k - e.dIn < -(l.monitor.deficitLimit : Int)) && !x.deficitLatched
    let ratio := decide ((l.monitor.refundFloor : Int) ≤ e.f) && decide (e.r * l.monitor.ratio < e.f * 65536)
    let pending := d.qual.any (fun k => decide (k.merchant = m))
    let latches := ratio && !x.refundLatched && !pending && decide (l.monitor.qualTime = 0)
    let d' := d.evalMerchant m
    merchantOf d'.records m = { x with
      deficitLatched := x.deficitLatched || deficit
      salesBlocked := x.salesBlocked || deficit && l.device.operate.getLsbD 4
      refundLatched := x.refundLatched || latches
      refundsBlocked := x.refundsBlocked || latches && l.device.operate.getLsbD 5 } ∧
    (∀ k, k ≠ m → merchantOf d'.records k = merchantOf d.records k) ∧
    d'.records = { d.records with merchants := d'.records.merchants } ∧
    d'.events = d.events ||| (if deficit || latches then 0x40#8 else 0x00#8) ∧
    (ratio = false → d'.qual = d.qual.filter (fun k => decide (k.merchant ≠ m))) ∧
    (ratio = true → x.refundLatched = false → pending = false → 0 < l.monitor.qualTime →
      d'.qual = insertQual { merchant := m, due := min (d.now + l.monitor.qualTime) 4294967295 } d.qual) ∧
    (ratio = true → (x.refundLatched = true ∨ pending = true ∨ l.monitor.qualTime = 0) → d'.qual = d.qual) ∧
    d'.dirHigh = d.dirHigh ∧ d'.holdsHigh = d.holdsHigh ∧ d'.now = d.now

/-! Merchants (chapter 6) -/

/-- The merchant requests of the Posting class, in every state of the merchant. MERCHANT_ENROL of an UNENROLLED merchant makes
it ENROLLED with the settings carried; MERCHANT_UPDATE of an ENROLLED or SUSPENDED one replaces its settings.
MERCHANT_SUSPEND and MERCHANT_RESUME move between ENROLLED and SUSPENDED, and on a merchant already there answer OK with no
change. MERCHANT_WITHDRAW of an ENROLLED or SUSPENDED merchant with no open hold makes it WITHDRAWN in the open period; with
holds open it is refused HOLDS_OPEN. Each change writes the floor and nothing else; the other states are refused
ALREADY_ENROLLED or NOT_ENROLLED with no change (R104 to R110). That refusals carry the merchant number is R115's, against
R191 (entry 12), and that a refused suspension or resumption carries 0 in its state byte is R191's, against R107 and R108
(entry 38; both DEDUCED). -/
def Obligations.MerchantRequestsByState : Prop :=
  ∀ (s : State) (m : Nat) (q : Slot),
    let x := merchantOf s.records m
    let told := fun (code : Nat) => answer .ok (field 2 m ++ field 1 code)
    let moved := fun (y : Merchant) => changed s (merchantWritten s m y)
    let refused := fun (i : Instr) (r : Result) =>
      exec i s = .next (underWay s q (startDraft s) (answer r (field 2 m)))
    let outside := x.state = .unenrolled ∨ x.state = .withdrawn
    let inside := x.state = .enrolled ∨ x.state = .suspended
    (∀ st, Granted s (.merchantEnrol m st) q →
      (x.state = .unenrolled →
        let r := merchantWritten s m { x with state := .enrolled, settings := st }
        exec (.merchantEnrol m st) s = .next (underWay s q (changed s r) (answer .ok (merchantPage0 r m)))) ∧
      (x.state ≠ .unenrolled → refused (.merchantEnrol m st) .alreadyEnrolled)) ∧
    (∀ st, Granted s (.merchantUpdate m st) q →
      (inside →
        let r := merchantWritten s m { x with settings := st }
        exec (.merchantUpdate m st) s = .next (underWay s q (changed s r) (answer .ok (merchantPage0 r m)))) ∧
      (outside → refused (.merchantUpdate m st) .notEnrolled)) ∧
    (Granted s (.merchantSuspend m) q →
      (x.state = .enrolled →
        exec (.merchantSuspend m) s = .next (underWay s q (moved { x with state := .suspended }) (told 2))) ∧
      (x.state = .suspended → exec (.merchantSuspend m) s = .next (underWay s q (startDraft s) (told 2))) ∧
      (outside → refused (.merchantSuspend m) .notEnrolled)) ∧
    (Granted s (.merchantResume m) q →
      (x.state = .suspended →
        exec (.merchantResume m) s = .next (underWay s q (moved { x with state := .enrolled }) (told 1))) ∧
      (x.state = .enrolled → exec (.merchantResume m) s = .next (underWay s q (startDraft s) (told 1))) ∧
      (outside → refused (.merchantResume m) .notEnrolled)) ∧
    (Granted s (.merchantWithdraw m) q →
      (inside → x.openHolds = 0 → exec (.merchantWithdraw m) s =
        .next (underWay s q
          (moved { x with state := .withdrawn, withdrawnIn := some s.records.totals.openPeriod })
          (answer .ok (field 2 m ++ field 1 s.records.totals.openPeriod ++ field 2 0)))) ∧
      (inside → 0 < x.openHolds → exec (.merchantWithdraw m) s =
        .next (underWay s q (startDraft s) (answer .holdsOpen (field 2 m ++ field 1 0 ++ field 2 x.openHolds)))) ∧
      (outside → refused (.merchantWithdraw m) .notEnrolled)) ∧
    ∀ y k, merchantOf (merchantWritten s m y) k = if k = m then y else merchantOf s.records k

/-! Settlement periods (chapters 7 and 8) -/

/-- SCHEDULE_STAGE: a valid schedule replaces the staged one of its selector, unused fields 0, its flag set and the floor
written; one that is not valid is answered SCHEDULE_INVALID with no change (R121, R122). -/
def Obligations.ScheduleStageReplaces : Prop :=
  ∀ (s : State) (sel : Select) (sc : Schedule) (q : Slot), Granted s (.scheduleStage sel sc) q →
    let valid := 1 ≤ sc.tiers ∧ sc.tiers ≤ 4 ∧ (2 ≤ sc.tiers → 1 ≤ sc.t1) ∧ (3 ≤ sc.tiers → sc.t1 < sc.t2) ∧
      (4 ≤ sc.tiers → sc.t2 < sc.t3)
    let stored : Schedule :=
      { tiers := sc.tiers, c1 := sc.c1, allowance := sc.allowance,
        t1 := if 2 ≤ sc.tiers then sc.t1 else 0, c2 := if 2 ≤ sc.tiers then sc.c2 else 0,
        t2 := if 3 ≤ sc.tiers then sc.t2 else 0, c3 := if 3 ≤ sc.tiers then sc.c3 else 0,
        t3 := if 4 ≤ sc.tiers then sc.t3 else 0, c4 := if 4 ≤ sc.tiers then sc.c4 else 0 }
    let floored := { s.records.totals with floor := s.clock.value }
    (valid → sel = .a → exec (.scheduleStage sel sc) s =
      .next (underWay s q (changed s { s.records with stagedA := stored, stagedAValid := true, totals := floored })
        (answer .ok (field 1 0)))) ∧
    (valid → sel = .b → exec (.scheduleStage sel sc) s =
      .next (underWay s q (changed s { s.records with stagedB := stored, stagedBValid := true, totals := floored })
        (answer .ok (field 1 1)))) ∧
    (¬ valid → exec (.scheduleStage sel sc) s = .next (underWay s q (startDraft s) (refuse .scheduleInvalid)))

/-- PERIOD_CLOSE and ALARM_CUTOVER: with the closing bank ABSENT each is a cutover, with now as the floor, alarm-pending
withdrawn, CLOSE_DONE set and the Qualification List emptied; the close is answered with the period closed, the period
opened, now and outstanding. Otherwise the close is answered STATEMENT_PENDING and changes nothing, and the alarm sets
close-deferred and CLOSE_DEFERRED, writes the floor and withdraws alarm-pending (R125, R126, R129). What a cutover does to
the records is CutoverExchangesTheBanks. -/
def Obligations.CloseAndAlarmCutOver : Prop :=
  ∀ (s : State) (q : Slot),
    let t := s.records.totals
    let now := s.clock.value
    let cut : Draft :=
      { startDraft s with
        records := { cutoverRecords s.records now with totals :=
          { t with openPeriod := (t.openPeriod + 1) % 8, floor := now } }
        qual := []
        events := 0x04#8
        clearsAlarm := true }
    let deferred : Draft :=
      { startDraft s with
        records := { s.records with totals := { t with closeDeferred := true, floor := now } }
        events := 0x10#8
        clearsAlarm := true }
    (Granted s .periodClose q →
      (s.records.closingBank.state = .absent → exec .periodClose s = .next (underWay s q cut
        (answer .ok (field 1 t.openPeriod ++ field 1 ((t.openPeriod + 1) % 8) ++ field 4 now ++
          posField t.outstanding)))) ∧
      (s.records.closingBank.state ≠ .absent → exec .periodClose s = .next (underWay s q (startDraft s)
        (answer .statementPending (field 1 s.records.closingBank.period ++
          field 1 (bankStateCode s.records.closingBank.state)))))) ∧
    (NoReadWaits s → arbiterChoice s = some .settlement → s.alarmPending = true →
      (s.records.closingBank.state = .absent →
        exec .alarmCutover s = .next (internalUnderWay s .settlement .alarm (some now) cut)) ∧
      (s.records.closingBank.state ≠ .absent →
        exec .alarmCutover s = .next (internalUnderWay s .settlement .alarm (some now) deferred)))

/-- STATEMENTS_RELEASE of the READY bank's period: every merchant WITHDRAWN in that period returns to UNENROLLED with its
open entry zeroed, every other merchant stands; the bank becomes ABSENT, or, with close-deferred set, a cutover follows in
the same posting, of the records as the return of the merchants left them (what it does to them is CutoverExchangesTheBanks); the
floor becomes now and nothing else changes. The other cases are refused with no change (R112, R124, R125, R135, R136). That
the stored entries of a released bank are gone, beside being no longer readable, is entry 19 (DEDUCED). -/
def Obligations.ReleaseFreesTheClosingBank : Prop :=
  ∀ (s : State) (p : Nat) (q : Slot), Granted s (.statementsRelease p) q → tablesCanonical s.records = true →
    let b := s.records.closingBank
    let t := s.records.totals
    let leaves := fun (m : Nat) =>
      (merchantOf s.records m).state = .withdrawn ∧ (merchantOf s.records m).withdrawnIn = some p
    (b.state = .absent → exec (.statementsRelease p) s = .next (underWay s q (startDraft s) (refuse .noStatement))) ∧
    (b.state = .computing → exec (.statementsRelease p) s = .next (underWay s q (startDraft s) (refuse .notReady))) ∧
    (b.state = .ready → b.period ≠ p → exec (.statementsRelease p) s =
      .next (underWay s q (startDraft s) (answer .wrongPeriod (field 1 b.period)))) ∧
    (b.state = .ready → b.period = p →
      ∃ d n, exec (.statementsRelease p) s = .next (underWay s q d
          (answer .ok (field 1 p ++ field 2 n ++ flagField t.closeDeferred ++
            field 1 (if t.closeDeferred then (t.openPeriod + 1) % 8 else t.openPeriod)))) ∧
        n = (s.records.merchants.filter (fun e =>
          decide (e.2.state = .withdrawn) && decide (e.2.withdrawnIn = some p))).length ∧
        ∃ r : Records,
          r = { s.records with
            closingBank := r.closingBank
            merchants := r.merchants
            openBank := { s.records.openBank with entries := r.openBank.entries }
            totals := { t with closeDeferred := false } } ∧
          tablesCanonical r = true ∧
          r.closingBank.state = .absent ∧ r.closingBank.period = b.period ∧ r.closingBank.entries = [] ∧
          (∀ m, leaves m → merchantOf r m =
            { unenrolledMerchant with openHolds := (merchantOf s.records m).openHolds } ∧
            openEntry r m = zeroEntry) ∧
          (∀ m, ¬ leaves m → merchantOf r m = merchantOf s.records m ∧ openEntry r m = openEntry s.records m) ∧
          (t.closeDeferred = false →
            d = { startDraft s with
              records := { r with totals := { t with floor := s.clock.value } }
              qual := s.qual.filter (fun k => decide (¬ leaves k.merchant)) }) ∧
          (t.closeDeferred = true →
            d = { startDraft s with
              records := { cutoverRecords r s.clock.value with totals :=
                { t with closeDeferred := false, openPeriod := (t.openPeriod + 1) % 8, floor := s.clock.value } }
              qual := []
              events := 0x04#8
              clearsAlarm := true }))

/-- The figures of a statement, for inputs as R138 gives them (no amount negative or above the bound, rates below 65,536, a
valid schedule): the base, its portions between the thresholds of the tiers, which add up to it, the commission rounded half
up once, the allowance, the net in its fixed order with saturation, the payout and the deficit carried out, and the relations
of R149 (R139 to R145). -/
def Obligations.StatementFigures : Prop :=
  ∀ (sc : Schedule) (e : Entry), scheduleValid sc = true → sc.c1 < 65536 → sc.c2 < 65536 → sc.c3 < 65536 →
    sc.c4 < 65536 → sc.allowance < 65536 →
    0 ≤ e.r ∧ e.r ≤ Config.posMax → 0 ≤ e.f ∧ e.f ≤ Config.posMax → 0 ≤ e.s ∧ e.s ≤ Config.posMax →
    0 ≤ e.k ∧ e.k ≤ Config.posMax → 0 ≤ e.dIn ∧ e.dIn ≤ Config.posMax →
    let st := computeStatement sc e
    let edge := fun i => if i = 0 then (0 : Int) else if sc.tiers ≤ i then st.base
      else min st.base (if i = 1 then sc.t1 else if i = 2 then sc.t2 else sc.t3)
    let p := fun i => edge i - edge (i - 1)
    let rate := fun i => if i = 1 then (sc.c1 : Int) else if i = 2 then sc.c2 else if i = 3 then sc.c3 else sc.c4
    let n3 := satPos (e.r - e.f - st.commission - e.s)
    let n4 := satPos (n3 + st.allowance)
    let n5 := satPos (n4 + e.k)
    st.base = max (e.r - e.f) 0 ∧
    (∀ i, 1 ≤ i → i ≤ sc.tiers → 0 ≤ p i) ∧
    ((List.range sc.tiers).map (fun i => p (i + 1))).sum = st.base ∧
    st.commission = (((List.range sc.tiers).map (fun i => p (i + 1) * rate (i + 1))).sum + 32768) / 65536 ∧
    0 ≤ st.commission ∧ st.commission ≤ st.base ∧
    st.allowance = (e.s * sc.allowance + 32768) / 65536 ∧ 0 ≤ st.allowance ∧ st.allowance ≤ e.s ∧
    st.net = satPos (n5 - e.dIn) ∧
    st.saturated = (overflows (e.r - e.f - st.commission - e.s) || overflows (n3 + st.allowance) ||
      overflows (n4 + e.k) || overflows (n5 - e.dIn)) ∧
    (st.saturated = false →
      st.net = (e.r - e.f) - st.commission - e.s + st.allowance + e.k - e.dIn) ∧
    st.payout = max st.net 0 ∧ st.dOut = max (-st.net) 0 ∧ st.payout - st.dOut = st.net ∧
    (st.payout = 0 ∨ st.dOut = 0) ∧ st.dOut ≤ Config.posMax

/-! Conditions, events, limits (chapters 9 to 11) -/

/-- CONDITIONS_CLEAR inside its posting: a latched condition that is not live is cleared and its action lifted, one that is
live stays; the answer counts both. Scope MERCHANT, scope CARD and scope ALL_MERCHANTS, which goes over every merchant, write
the floor when they clear something and change nothing otherwise; a serial not found is answered NO_CARD (R160, R161). -/
def Obligations.ClearsOfMerchantsAndCards : Prop :=
  (∀ (s : State) (m : Nat) (q : Slot), Granted s (.conditionsClearMerchant m) q →
    let x := merchantOf s.records m
    let l := s.records.limits.monitor
    let e := openEntry s.records m
    let ratio := decide ((l.refundFloor : Int) ≤ e.f) && decide (e.r * l.ratio < e.f * 65536)
    let deficit := decide (e.r - e.f - e.s + e.k - e.dIn < -(l.deficitLimit : Int))
    let c1 := x.refundLatched && !ratio
    let c2 := x.deficitLatched && !deficit
    let told := answer .ok (field 2 (c1.toNat + c2.toNat) ++
      field 2 ((x.refundLatched && ratio).toNat + (x.deficitLatched && deficit).toNat))
    (c1 || c2) = true ∧ exec (.conditionsClearMerchant m) s = .next (underWay s q
        (changed s (merchantWritten s m
          { x with
            refundLatched := x.refundLatched && !c1, refundsBlocked := x.refundsBlocked && !c1,
            deficitLatched := x.deficitLatched && !c2, salesBlocked := x.salesBlocked && !c2 })) told) ∨
    (c1 || c2) = false ∧ exec (.conditionsClearMerchant m) s = .next (underWay s q (startDraft s) told)) ∧
  (∀ (s : State) (x : Nat) (q : Slot), Granted s (.conditionsClearCard x) q →
    (cardOf s.records x = none →
      exec (.conditionsClearCard x) s = .next (underWay s q (startDraft s) (refuse .noCard))) ∧
    ∀ j c, cardOf s.records x = some (j, c) →
      let l := s.records.limits.monitor
      let live := decide (l.velocityLimit < c.velocityCount) &&
        decide (s.clock.value - c.windowStart < l.velocityWindow)
      (c.velocityLatched = true → live = false →
        exec (.conditionsClearCard x) s = .next (underWay s q
          (changed s (cardWritten s j
            { c with
              velocityLatched := false
              locks := { c.locks with velocity := false }
              state := if c.state = .locked ∧ c.locks.host = false ∧ c.locks.velocity = true then .active else c.state
              lastPostingAt := s.clock.value }))
          (answer .ok (field 2 1 ++ field 2 0)))) ∧
      (c.velocityLatched = false ∨ live = true →
        exec (.conditionsClearCard x) s = .next (underWay s q (startDraft s)
          (answer .ok (field 2 0 ++ field 2 (if c.velocityLatched then 1 else 0)))))) ∧
  ∀ (s : State) (q : Slot), Granted s .conditionsClearAllMerchants q → tablesCanonical s.records = true →
    let l := s.records.limits.monitor
    let e := openEntry s.records
    let ratio := fun m => decide ((l.refundFloor : Int) ≤ (e m).f) && decide ((e m).r * l.ratio < (e m).f * 65536)
    let deficit := fun m =>
      decide ((e m).r - (e m).f - (e m).s + (e m).k - (e m).dIn < -(l.deficitLimit : Int))
    let cleared := (s.records.merchants.map (fun x =>
      (x.2.refundLatched && !ratio x.1).toNat + (x.2.deficitLatched && !deficit x.1).toNat)).sum
    let remaining := (s.records.merchants.map (fun x =>
      (x.2.refundLatched && ratio x.1).toNat + (x.2.deficitLatched && deficit x.1).toNat)).sum
    ∃ d, exec .conditionsClearAllMerchants s =
        .next (underWay s q d (answer .ok (field 2 cleared ++ field 2 remaining))) ∧
      (cleared = 0 → d = startDraft s) ∧
      (0 < cleared →
        d = changed s { s.records with
          merchants := d.records.merchants
          totals := { s.records.totals with floor := s.clock.value } } ∧
        ∀ m, let x := merchantOf s.records m
          merchantOf d.records m = { x with
            refundLatched := x.refundLatched && ratio m
            refundsBlocked := x.refundsBlocked && !(x.refundLatched && !ratio m)
            deficitLatched := x.deficitLatched && deficit m
            salesBlocked := x.salesBlocked && !(x.deficitLatched && !deficit m) })

/-- CONDITIONS_CLEAR of scope DEVICE clears each latched device class that is not live: DIRECTORY_HIGH and HOLDS_HIGH as they
stood at the grant. SUPPLY_LOW is judged as it stands at the posting's end, where the response with both counts is placed,
and the floor written if anything was cleared (R160, R161). The state at the end is any in which this posting is in flight,
with an alarm fired since or not, and its slot alone waits: whatever the supply, the clock, the events and the port did in
the meantime. That SUPPLY_LOW's latched flag, too, is the one at the end is entry 9 (DEDUCED). -/
def Obligations.ClearOfDevice : Prop :=
  ∀ (s : State) (q : Slot), Granted s .conditionsClearDevice q →
    ∃ t p, exec .conditionsClearDevice s = .next t ∧
      t = { s with lastKind := .link, posting := some p } ∧
      ∀ (r : SupplyReading) (s' : State) (fired : Bool), s'.posting = some { p with alarmFired := fired } →
        s'.port.accepted = [q] →
        let kept := fun (f : DevFlag) => ({ live := f.live, latched := f.latched && f.live } : DevFlag)
        let gone := fun (f : DevFlag) => (f.latched && !f.live).toNat
        let left := fun (f : DevFlag) => (f.latched && f.live).toNat
        let cleared := gone s.dirHigh + gone s.holdsHigh + gone s'.supplyLow
        ∃ u, exec (.postingEnd r) s' = .next u ∧ u.dirHigh = kept s.dirHigh ∧ u.holdsHigh = kept s.holdsHigh ∧
          u.supplyLow = kept s'.supplyLow ∧ u.supply = s'.supply ∧ u.guard = s'.guard ∧ u.clock = s'.clock ∧
          u.events = s'.events ∧ u.alarmPending = s'.alarmPending ∧ u.posting = none ∧ u.port.accepted = [] ∧
          u.port.delivery = s'.port.delivery ++ [{ slot := q, answer := answer .ok (field 2 cleared ++
            field 2 (left s.dirHigh + left s.holdsHigh + left s'.supplyLow)) }] ∧
          u.records = { s.records with totals :=
            { s.records.totals with floor := if cleared = 0 then s.records.totals.floor else s.clock.value } }

/-- LIMITS_SET: with every field in its range the group is replaced and the floor written; with any field outside, the whole
request is answered BAD_PARAMETER and nothing changes. A changed watermark re-evaluates its device class, with
CONDITION_LATCHED when it latches; a changed warning level or G is compared with the supply at the posting's end, by
ChangedLevelsMeetTheSupply (R26, R31, R58, R74, R77, R151, R154, R155, R170, R193).
That a refused LIMITS_SET carries zeros is entry 16 (DEDUCED). -/
def Obligations.LimitsSetReplacesTheGroup : Prop :=
  ∀ (s : State) (q : Slot),
    let l := s.records.limits
    let floored := { s.records.totals with floor := s.clock.value }
    let refused := fun (i : Instr) => exec i s = .next (underWay s q (startDraft s) (refuse .badParameter))
    (∀ v : ValueLimits, Granted s (.limitsSetValue v) q →
      let good := 1 ≤ v.cap ∧ v.cap ≤ 100000000 ∧ 1 ≤ v.holdMin ∧ v.holdMin ≤ v.holdMax ∧ v.holdMax ≤ 2592000
      (good → exec (.limitsSetValue v) s = .next (underWay s q
        (changed s { s.records with limits := { l with value := v }, totals := floored })
        (answer .ok (field 1 0 ++ field 4 v.cap ++ field 4 v.holdMin ++ field 4 v.holdMax)))) ∧
      (¬ good → refused (.limitsSetValue v))) ∧
    (∀ n : MonitorLimits, Granted s (.limitsSetMonitor n) q →
      let good := n.ratio ≤ 65535 ∧ n.refundFloor ≤ 1099511627775 ∧ n.qualTime ≤ 86400 ∧
        n.deficitLimit ≤ 1099511627775 ∧ 1 ≤ n.velocityLimit ∧ n.velocityLimit ≤ 254 ∧ 1 ≤ n.velocityWindow ∧
        n.velocityWindow ≤ 86400 ∧ 1 ≤ n.dirWatermark ∧ n.dirWatermark ≤ 32768 ∧ 1 ≤ n.holdWatermark ∧
        n.holdWatermark ≤ 4096
      let dir := decide (n.dirWatermark ≤ s.records.occupancy)
      let holds := decide (n.holdWatermark ≤ s.records.holds.length)
      (good → ∃ d, exec (.limitsSetMonitor n) s = .next (underWay s q d
          (answer .ok (limitsBody { l with monitor := n } .monitor))) ∧
        d.records = { s.records with limits := { l with monitor := n }, totals := floored } ∧
        d.dirHigh = (if n.dirWatermark = l.monitor.dirWatermark then s.dirHigh
          else { live := dir, latched := s.dirHigh.latched || dir }) ∧
        d.holdsHigh = (if n.holdWatermark = l.monitor.holdWatermark then s.holdsHigh
          else { live := holds, latched := s.holdsHigh.latched || holds }) ∧
        d.events = (if n.dirWatermark = l.monitor.dirWatermark then 0x00#8 else latchEvent s.dirHigh dir) |||
          (if n.holdWatermark = l.monitor.holdWatermark then 0x00#8 else latchEvent s.holdsHigh holds) ∧
        d.qual = s.qual ∧ PlainDraft s d) ∧
      (¬ good → refused (.limitsSetMonitor n))) ∧
    (∀ v : DeviceLimits, Granted s (.limitsSetDevice v) q →
      let good := 1 ≤ v.guardTime ∧ v.guardTime ≤ 255 ∧ v.alarmTime ≤ 86399
      (good → exec (.limitsSetDevice v) s = .next (underWay s q
        { startDraft s with
          records := { s.records with limits := { l with device := v }, totals := floored }
          finish := if v.warning = l.device.warning ∧ v.guardTime = l.device.guardTime then .plain else .supplyLevels }
        (answer .ok (limitsBody { l with device := v } .device)))) ∧
      (¬ good → refused (.limitsSetDevice v)))

/-- POSTING_END of a LIMITS_SET that changed the warning level or G: the supply then measured is compared with the new levels.
A NORMAL device whose supply is below the new warning level enters LOW with the new G, a device in LOW or PARKED whose supply
is above the new recovery level returns to NORMAL, and otherwise nothing moves, a running guard timer included (R172, R175,
R176). -/
def Obligations.ChangedLevelsMeetTheSupply : Prop :=
  ∀ (s : State) (r : SupplyReading) (p : Posting), NoReadWaits s → s.posting = some p →
    p.change.finish = .supplyLevels →
    let device := p.change.records.limits.device
    let warning := warningMv device.warning
    let quiet := ∀ x ∈ s.port.accepted, isReadSlot x = false
    let low := s.supply = some .low ∨ s.supply = some .parked
    ∃ t, exec (.postingEnd r) s = .next t ∧ t.records = p.change.records ∧
      (s.supply = some .normal → r.vdd < warning →
        t.supply = some .low ∧ t.guard = some { startedAt := r.ms, span := device.guardTime } ∧
        t.supplyLow = { live := true, latched := true } ∧
        (quiet → t.events = s.events ||| p.change.events ||| latchEvent s.supplyLow true ||| 0x80#8)) ∧
      (low → warning + 50 < r.vdd →
        t.supply = some .normal ∧ t.guard = none ∧ t.supplyLow = { s.supplyLow with live := false } ∧
        (quiet → t.events =
          s.events ||| p.change.events ||| (if s.supply = some .parked then 0x01#8 else 0x00#8))) ∧
      (s.supply = some .normal ∧ warning ≤ r.vdd ∨ low ∧ r.vdd ≤ warning + 50 →
        t.supply = s.supply ∧ t.guard = s.guard ∧ t.supplyLow = s.supplyLow ∧
        (quiet → t.events = s.events ||| p.change.events))

/-! Reads (R83, R86) -/

/-- Each of the twelve read rows (CARD_INQUIRE, HOLD_INQUIRE, MERCHANT_INQUIRE, SCHEDULE_READ, STATEMENT_READ, TOTALS_READ,
CONDITION_SCAN, EVENTS_READ, EVENTS_CLEAR, CLOCK_SET, CLOCK_READ, LIMITS_READ), when its request is the oldest eligible read,
is served: its response joins the delivery order behind those already there and its slot is ACCEPTED no more; no record of
the record array changes, and a posting in flight goes on. The slots its answer makes eligible follow; where it makes none
eligible that is all but what the read itself does (R83, R86, R92, R93, R187).
And nothing comes between the moment a read is eligible and its serving: any other row, an end of a posting, a frame or
another request, finds the state that serving leaves, as if the read's own row had come just before it (R86). That the
serving is a step of its own, or the beginning of the next one, is entry 25 (DEDUCED). What an answer without a grant carries
is in AnsweredAtAcceptance, by entries 12 and 33. -/
def Obligations.ReadsAreServed : Prop :=
  (∀ (i : Instr) (s : State) (q : Slot), isRead i = true → Served s i q →
    ∃ t s1 a rest, exec i s = .next t ∧ serve i s = some (s1, a) ∧
      t.port.delivery = s.port.delivery ++ { slot := q, answer := a } :: rest ∧
      (∀ x ∈ t.port.accepted, x.place ≠ q.place) ∧ t.records = s.records ∧ t.supply = s.supply ∧
      t.posting.isSome = s.posting.isSome ∧
      (portInv s = true → SettledBy s t rest) ∧
      (portInv s = true → OthersWait s q → t = { s1 with port := { s.port with
        accepted := s.port.accepted.filter (fun x => decide (x.place ≠ q.place))
        delivery := s.port.delivery ++ [{ slot := q, answer := a }] } }) ∧
      ((∀ v, i ≠ .clockSet v) → (∀ f, i ≠ .eventsClear f) → s1 = s)) ∧
  ∀ (i j : Instr) (s t : State) (q : Slot), portInv s = true → Served s i q → exec i s = .next t → j ≠ i →
    exec j s = exec j t ∧ NoReadWaits t

/-- What the reads of cards, holds, merchants, conditions, events, clock and limits answer, field by field: CARD_INQUIRE,
HOLD_INQUIRE, MERCHANT_INQUIRE, CONDITION_SCAN, EVENTS_READ with its first pending cause, EVENTS_CLEAR, CLOCK_READ and
LIMITS_READ (R11, R48, R76, R113, R163, R166, R167, R190 to R193). The bytes of an absent time are open (entry 13). -/
def Obligations.ReadsAnswerTheirFields : Prop :=
  ∀ s : State,
    (∀ x p, cardOf s.records x = none → serve (.cardInquire x p) s = some (s, refuse .noCard)) ∧
    (∀ x j c, cardOf s.records x = some (j, c) →
      let time := fun (t : Option Nat) => match t with
        | none => field 1 0 ++ openBytes 4
        | some v => field 1 1 ++ field 4 v
      serve (.cardInquire x 0) s = some (s, answer .ok
        (field 2 j ++ field 8 c.serial ++ field 1 (cardStateCode c.state) ++
          field 1 (c.locks.host.toNat + 2 * c.locks.velocity.toNat) ++ field 4 c.available ++ field 4 c.held ++
          field 1 c.openHolds ++ field 2 c.issuer ++ field 1 c.velocityCount ++ field 1 c.velocityLatched.toNat)) ∧
      serve (.cardInquire x 1) s = some (s, answer .ok
        (field 2 j ++ field 4 c.issuedAt ++ field 4 c.lastPostingAt ++ time c.validUntil ++ field 4 c.windowStart ++
          field 1 (optReasonCode c.retireReason) ++ time c.retiredAt))) ∧
    (∀ id p, findHold s.records.holds id = none → serve (.holdInquire id p) s = some (s, refuse .noHold)) ∧
    (∀ id h c, findHold s.records.holds id = some h → tableFind s.records.cards h.slot = some c →
      serve (.holdInquire id 0) s = some (s, answer .ok
        (field 2 h.id ++ field 2 h.merchant ++ field 4 h.amount ++ field 2 h.tolerance ++
          field 5 (h.amount + h.amount * h.tolerance / 10000) ++ field 4 h.createdAt ++ field 4 h.deadline)) ∧
      serve (.holdInquire id 1) s = some (s, answer .ok
        (field 2 h.id ++ field 2 h.slot ++ field 8 c.serial ++ field 1 (cardStateCode c.state)))) ∧
    (∀ m, let x := merchantOf s.records m
      let e := openEntry s.records m
      let flags := x.settings.partialAllowed.toNat + 2 * x.settings.salesPermitted.toNat +
        4 * x.settings.refundsPermitted.toNat + 8 * x.refundLatched.toNat + 16 * x.deficitLatched.toNat +
        32 * x.refundsBlocked.toNat + 64 * x.salesBlocked.toNat
      serve (.merchantInquire m 0) s = some (s, answer .ok
        (field 2 m ++ field 1 (merchantStateCode x.state) ++ field 1 flags ++ field 1 (selectCode x.settings.select) ++
          field 2 x.settings.tolerance ++ field 2 x.openHolds ++ field 1 (x.withdrawnIn.getD 255) ++
          field 1 s.records.totals.openPeriod ++ posField e.dIn ++ field 4 e.postings)) ∧
      serve (.merchantInquire m 1) s = some (s, answer .ok
        (field 2 m ++ posField e.r ++ posField e.f ++ posField e.s ++ posField e.k))) ∧
    (rising s.records.merchants = true → ∀ k,
      (∀ m, k ≤ m → (merchantOf s.records m).refundLatched = false ∧ (merchantOf s.records m).deficitLatched = false) →
      serve (.conditionScan .merchant k) s = some (s, answer .ok (field 1 0))) ∧
    (rising s.records.merchants = true → ∀ k m, k ≤ m →
      let x := merchantOf s.records m
      (x.refundLatched = true ∨ x.deficitLatched = true) →
      (∀ i, k ≤ i → i < m →
        (merchantOf s.records i).refundLatched = false ∧ (merchantOf s.records i).deficitLatched = false) →
      serve (.conditionScan .merchant k) s = some (s, answer .ok (field 1 1 ++ field 2 m ++
        field 1 (merchantFlags x) ++ field 1 (merchantStateCode x.state)))) ∧
    (rising s.records.cards = true → ∀ k,
      (∀ j c, k ≤ j → tableFind s.records.cards j = some c → c.velocityLatched = false) →
      serve (.conditionScan .card k) s = some (s, answer .ok (field 1 0))) ∧
    (rising s.records.cards = true → ∀ k j c, k ≤ j → tableFind s.records.cards j = some c →
      c.velocityLatched = true →
      (∀ i c', k ≤ i → i < j → tableFind s.records.cards i = some c' → c'.velocityLatched = false) →
      serve (.conditionScan .card k) s = some (s, answer .ok (field 1 1 ++ field 2 j ++ field 8 c.serial ++
        field 1 (cardStateCode c.state) ++ field 1 (c.locks.host.toNat + 2 * c.locks.velocity.toNat)))) ∧
    (let pending := s.events &&& s.records.limits.device.enable
      let first := if pending.getLsbD 7 then 128 else if pending.getLsbD 6 then 64 else if pending.getLsbD 5 then 32
        else if pending.getLsbD 4 then 16 else if pending.getLsbD 3 then 8 else if pending.getLsbD 2 then 4
        else if pending.getLsbD 1 then 2 else if pending.getLsbD 0 then 1 else 0
      serve .eventsRead s = some (s, answer .ok
        (field 1 s.events.toNat ++ field 1 s.records.limits.device.enable.toNat ++ field 1 pending.toNat ++
          field 1 first ++
          field 1 (32 * s.dirHigh.live.toNat + 16 * s.dirHigh.latched.toNat + 8 * s.holdsHigh.live.toNat +
            4 * s.holdsHigh.latched.toNat + 2 * s.supplyLow.live.toNat + s.supplyLow.latched.toNat) ++
          field 1 (nattnLow s).toNat))) ∧
    (∀ f, ∃ s1, serve (.eventsClear f) s = some (s1, answer .ok (field 1 s1.events.toNat ++
        field 1 (nattnLow s1).toNat)) ∧ s1 = { s with events := s1.events } ∧
      ∀ i, i < 8 → s1.events.getLsbD i = (s.events.getLsbD i && !f.getLsbD i)) ∧
    serve .clockRead s = some (s, answer .ok
      (field 1 (if s.clock.state = .set then 1 else 0) ++ field 4 s.clock.value ++
        field 4 s.records.totals.floor)) ∧
    (let v := s.records.limits.value
      let n := s.records.limits.monitor
      let d := s.records.limits.device
      serve (.limitsRead .value) s = some (s, answer .ok
        (field 1 0 ++ field 4 v.cap ++ field 4 v.holdMin ++ field 4 v.holdMax)) ∧
      serve (.limitsRead .monitor) s = some (s, answer .ok
        (field 1 1 ++ field 2 n.ratio ++ field 5 n.refundFloor ++ field 4 n.qualTime ++ field 5 n.deficitLimit ++
          field 1 n.velocityLimit ++ field 4 n.velocityWindow ++ field 2 n.dirWatermark ++ field 2 n.holdWatermark)) ∧
      serve (.limitsRead .device) s = some (s, answer .ok
        (field 1 2 ++ field 1 (warningCode d.warning) ++ field 1 d.guardTime ++ field 1 d.alarmEnable.toNat ++
          field 4 d.alarmTime ++ field 1 d.enable.toNat ++ field 1 d.report.toNat ++ field 1 d.operate.toNat)))

/-- What the reads of periods answer, field by field: SCHEDULE_READ of each source, STATEMENT_READ in each state of the closing
bank, and the four pages of TOTALS_READ, an ABSENT closing bank reading as 0 beside period number and state (R95, R117, R123,
R134, R191, R192). The fields of a staged schedule that is not valid are open beside its tier count (entry 14). -/
def Obligations.ReadsAnswerForPeriods : Prop :=
  ∀ s : State,
    let t := s.records.totals
    let o := s.records.openBank
    let b := s.records.closingBank
    let schedule := fun (sc : Schedule) => answer .ok
      (field 1 sc.tiers ++ field 5 sc.t1 ++ field 5 sc.t2 ++ field 5 sc.t3 ++ field 2 sc.c1 ++ field 2 sc.c2 ++
        field 2 sc.c3 ++ field 2 sc.c4 ++ field 2 sc.allowance)
    serve (.scheduleRead .a .opened) s = some (s, schedule o.scheduleA) ∧
    serve (.scheduleRead .b .opened) s = some (s, schedule o.scheduleB) ∧
    serve (.scheduleRead .a .staged) s = some (s, if s.records.stagedAValid = true then schedule s.records.stagedA
      else answer .ok (field 1 0 ++ openBytes 25)) ∧
    serve (.scheduleRead .b .staged) s = some (s, if s.records.stagedBValid = true then schedule s.records.stagedB
      else answer .ok (field 1 0 ++ openBytes 25)) ∧
    (∀ sel, b.state = .absent → serve (.scheduleRead sel .closing) s = some (s, refuse .noStatement)) ∧
    (b.state ≠ .absent → serve (.scheduleRead .a .closing) s = some (s, schedule b.scheduleA) ∧
      serve (.scheduleRead .b .closing) s = some (s, schedule b.scheduleB)) ∧
    (∀ m p, b.state = .absent → serve (.statementRead m p) s = some (s, refuse .noStatement)) ∧
    (∀ m p, b.state = .computing → serve (.statementRead m p) s = some (s, refuse .notReady)) ∧
    (∀ m p, b.state = .ready → (closingEntry s.records m).captured = none →
      serve (.statementRead m p) s = some (s, refuse .noStatement)) ∧
    (∀ m sel st, b.state = .ready →
      let e := closingEntry s.records m
      e.captured = some sel → e.statement = some st →
      serve (.statementRead m 0) s = some (s, answer .ok (field 1 b.period ++ posField e.r ++ posField e.f ++
        posField e.s ++ posField e.k ++ field 1 (selectCode sel))) ∧
      serve (.statementRead m 1) s = some (s, answer .ok (field 1 b.period ++ posField st.base ++
        posField st.commission ++ posField st.allowance ++ posField st.net ++ field 1 st.saturated.toNat)) ∧
      serve (.statementRead m 2) s = some (s, answer .ok (field 1 b.period ++ posField e.dIn ++ posField st.payout ++
        posField st.dOut ++ field 4 e.postings))) ∧
    serve (.totalsRead 0) s = some (s, answer .ok
      (posField t.outstanding ++ posField t.retiredValue ++ field 1 t.openPeriod ++ field 1 t.closeDeferred.toNat ++
        field 1 s.alarmPending.toNat ++ field 4 t.floor ++ field 2 s.records.occupancy ++
        field 2 s.records.holds.length)) ∧
    serve (.totalsRead 1) s = some (s, answer .ok
      (field 1 o.period ++ field 1 (bankStateCode o.state) ++ field 4 o.openedAt ++ posField o.openingOutstanding ++
        posField o.retiredInPeriod ++ field 1 o.saturated.toNat)) ∧
    (b.state = .absent →
      serve (.totalsRead 2) s = some (s, answer .ok (field 1 b.period ++ field 1 0 ++
        List.replicate 14 (some 0x00#8))) ∧
      serve (.totalsRead 3) s = some (s, answer .ok (field 1 b.period ++ List.replicate 16 (some 0x00#8)))) ∧
    (b.state ≠ .absent →
      (∀ closed out next, b.closedAt = some closed → b.closedOutstanding = some out → b.nextMerchant = some next →
        serve (.totalsRead 2) s = some (s, answer .ok (field 1 b.period ++ field 1 (bankStateCode b.state) ++
          field 4 closed ++ posField out ++ field 1 b.saturated.toNat ++ field 2 next))) ∧
      serve (.totalsRead 3) s = some (s, answer .ok
        (field 1 b.period ++ field 4 b.openedAt ++ posField b.openingOutstanding ++ posField b.retiredInPeriod)))

/-- A refusal inside a posting changes nothing: whatever request of the Posting class is granted, if the response it will
place is neither OK nor PARTIAL, DEFERRED or HOLD_EXPIRED, its change-set is the one it started from, with the floor as it was
(R9, R51, R78, R82, R115, R135). -/
def Obligations.RefusalsChangeNothing : Prop :=
  ∀ (s : State) (i : Instr) (q : Slot), Granted s i q →
    ∃ d a, exec i s = .next (underWay s q d a) ∧
      (a.result ≠ .ok → a.result ≠ .partialApproval → a.result ≠ .deferred → a.result ≠ .holdExpired →
        d = startDraft s)

/-! Invariants -/

/-- Every step keeps the tables of the record array, and of the change-set of a posting in flight, in their canonical form
(entry 32). -/
def Obligations.StepKeepsTablesCanonical : Prop :=
  ∀ s t : State, tablesInv s = true → step s = .next t → tablesInv t = true

/-- Every step keeps the Link Port as R183 and R184 give it: at most sixteen slots in use, no slot twice, the offered slot
the head of the delivery order. -/
def Obligations.StepKeepsThePort : Prop :=
  ∀ s t : State, portInv s = true → step s = .next t → portInv t = true

/-- Every step keeps the posting floor at or below a clock that is SET, and a step from a state in which that holds lowers
neither the floor nor, while it stays SET, the clock (R9). -/
def Obligations.StepKeepsTheFloor : Prop :=
  ∀ s t : State, floorInv s = true → step s = .next t →
    floorInv t = true ∧ s.records.totals.floor ≤ t.records.totals.floor ∧
    (s.clock.state = .set → t.clock.state = .set → s.clock.value ≤ t.clock.value)

/-- Every step keeps the Qualification List in its order, with one entry for each merchant and none for a merchant whose
REFUND_RATIO is latched, and keeps blocks and VELOCITY causes in force only while their condition is latched (R157,
R161). -/
def Obligations.StepKeepsTheConditions : Prop :=
  ∀ s t : State, conditionsInv s = true → step s = .next t → conditionsInv t = true

/-- Every step keeps the accounts in agreement: the cards stand where lookups find them (R24), each card's fields agree with
its state (R29), the Hold Table stands in order with held and open holds its sums on cards and merchants (R52, R53, R102),
and outstanding is the sum of available and held over the cards (R96). -/
def Obligations.StepKeepsTheAccounts : Prop :=
  ∀ s t : State, accountsInv s = true → step s = .next t → accountsInv t = true

/-- Every step keeps the period numbers of the banks one apart, and for each bank that is not SATURATED the relation of its
sums, its opening outstanding and retired in period with outstanding or closed outstanding (R112, R118, R120). Stated with the
accounts, by which no WITHDRAWN merchant posts (R53). -/
def Obligations.StepKeepsTheBanks : Prop :=
  ∀ s t : State, accountsInv s = true → banksInv s = true → step s = .next t → banksInv t = true

/-- The state right after reset meets the six invariants, and holds the values the spec gives: the delivered record array
(R14, R31, R52, R54, R58, R74, R75, R77, R95, R101, R117, R121, R127, R151, R156, R165, R170) and the power-up state of every
block (R13, R88, R157, R183). That the device has just powered up, at 3,300 mV, is the model's choice (entry 4). -/
def Obligations.ResetIsTheDeliveredDevice : Prop :=
  let s := State.reset
  let r := s.records
  tablesInv s = true ∧ portInv s = true ∧ floorInv s = true ∧ conditionsInv s = true ∧ accountsInv s = true ∧
  banksInv s = true ∧
  r.directory = [] ∧ r.occupancy = 0 ∧ r.cards = [] ∧ r.holds = [] ∧ r.holdIdCounter = 1 ∧
  merchantOf r 0 = { unenrolledMerchant with
    state := .enrolled
    settings := { select := .a, partialAllowed := true, tolerance := 0, salesPermitted := true,
                  refundsPermitted := true } } ∧
  (∀ m, m ≠ 0 → (merchantOf r m).state = .unenrolled ∧ (merchantOf r m).settings =
    { select := .a, partialAllowed := false, tolerance := 0, salesPermitted := false, refundsPermitted := false }) ∧
  r.openBank.period = 0 ∧ r.openBank.state = .opened ∧ r.openBank.scheduleA.tiers = 1 ∧
  r.openBank.scheduleA.c1 = 0 ∧ r.openBank.scheduleA.allowance = 0 ∧ r.openBank.scheduleB = r.openBank.scheduleA ∧
  r.openBank.entries = [] ∧ r.closingBank.period = 7 ∧ r.closingBank.state = .absent ∧
  r.stagedAValid = false ∧ r.stagedBValid = false ∧
  r.totals = { outstanding := 0, retiredValue := 0, openPeriod := 0, closeDeferred := false, floor := 0 } ∧
  r.limits.value = { cap := 1000000, holdMin := 60, holdMax := 604800 } ∧
  r.limits.monitor =
    { ratio := 16384, refundFloor := 10000, qualTime := 900, deficitLimit := 500000, velocityLimit := 20,
      velocityWindow := 3600, dirWatermark := 30000, holdWatermark := 3800 } ∧
  r.limits.device.warning = .v295 ∧ r.limits.device.guardTime = 20 ∧ r.limits.device.alarmEnable = false ∧
  r.limits.device.alarmTime = 0 ∧ r.limits.device.enable = 0xFF#8 ∧ r.limits.device.report = 0b111111#6 ∧
  r.limits.device.operate = 0b101000#6 ∧
  s.clock = { state := .unset, value := 0, dividerRunning := false } ∧ s.events = 0x20#8 ∧
  s.lastKind = .settlement ∧ s.posting = none ∧ s.expiryWaiting = none ∧ s.alarmPending = false ∧ s.qual = [] ∧
  s.port.accepted = [] ∧ s.port.delivery = [] ∧ s.port.offered = none ∧ s.port.lastRejected = false ∧
  s.port.lastNotTaken = false ∧ s.supply = some .normal ∧ s.guard = none
end

