-- ==== Sys2Proof/Laws/Tables.lean ====
section
/-! SUPPORT. The sparse tables: what a number reads as after a write, and that every write keeps the canonical form
(entry 32). -/

namespace Sys2Proof.Machine

/-! Reading after writing -/

variable {α : Type}

theorem tableFind_insert (t : Table α) (k : Nat) (v : α) (n : Nat) :
    tableFind (tableInsert t k v) n = if n = k then some v else tableFind t n := by
  induction t with
  | nil => simp only [tableInsert, tableFind, eq_comm]
  | cons e rest ih =>
    simp only [tableInsert]
    split
    · simp only [tableFind, eq_comm]
    · split
      · next h => subst h; by_cases h1 : e.1 = n <;> simp [tableFind, h1, Ne.symm]
      · next h =>
        simp only [tableFind, ih]
        by_cases h1 : e.1 = n
        · subst h1; simp [h]
        · simp [h1]

@[simp] theorem tableFind_insert_self (t : Table α) (k : Nat) (v : α) : tableFind (tableInsert t k v) k = some v := by
  simp [tableFind_insert]

theorem tableFind_insert_ne (t : Table α) {k n : Nat} (v : α) (h : n ≠ k) :
    tableFind (tableInsert t k v) n = tableFind t n := by simp [tableFind_insert, h]

theorem tableFind_erase (t : Table α) (k n : Nat) :
    tableFind (tableErase t k) n = if n = k then none else tableFind t n := by
  induction t with
  | nil => simp [tableErase, tableFind]
  | cons e rest ih =>
    simp only [tableErase] at ih ⊢
    by_cases h : e.1 = k
    · by_cases h1 : n = k
      · simp [h, h1] at ih ⊢; exact ih
      · simp [h, h1] at ih ⊢; rw [ih]; simp [tableFind, h, Ne.symm h1]
    · by_cases h1 : e.1 = n
      · subst h1; simp [h, tableFind]
      · simpa [h, tableFind, h1] using ih

@[simp] theorem tableFind_erase_self (t : Table α) (k : Nat) : tableFind (tableErase t k) k = none := by
  simp [tableFind_erase]

theorem tableFind_erase_ne (t : Table α) {k n : Nat} (h : n ≠ k) : tableFind (tableErase t k) n = tableFind t n := by
  simp [tableFind_erase, h]

/-- What a number reads as after a write: the value written there, and what it read as elsewhere. -/
theorem tableGet_put [DecidableEq α] (dflt : α) (t : Table α) (k : Nat) (v : α) (n : Nat) :
    tableGet dflt (tablePut dflt t k v) n = if n = k then v else tableGet dflt t n := by
  unfold tablePut tableGet
  split
  · next h => rw [tableFind_erase]; split <;> simp [h]
  · rw [tableFind_insert]; split <;> simp

@[simp] theorem tableGet_put_self [DecidableEq α] (dflt : α) (t : Table α) (k : Nat) (v : α) :
    tableGet dflt (tablePut dflt t k v) k = v := by simp [tableGet_put]

theorem tableGet_put_ne [DecidableEq α] (dflt : α) (t : Table α) {k n : Nat} (v : α) (h : n ≠ k) :
    tableGet dflt (tablePut dflt t k v) n = tableGet dflt t n := by simp [tableGet_put, h]

theorem slotState_put (dir : Table DirSlot) (k : Nat) (v : DirSlot) (n : Nat) :
    slotState (tablePut .empty dir k v) n = if n = k then v else slotState dir n := tableGet_put _ _ _ _ _

theorem slotState_erase (dir : Table DirSlot) (k n : Nat) :
    slotState (tableErase dir k) n = if n = k then .empty else slotState dir n := by
  unfold slotState tableGet
  rw [tableFind_erase]; split <;> simp

/-- What holds of every listed entry holds of one that is found. -/
theorem tableFind_all (p : Nat → α → Bool) {t : Table α} (h : t.all (fun e => p e.1 e.2) = true) {k : Nat} {v : α}
    (hf : tableFind t k = some v) : p k v = true := by
  induction t with
  | nil => cases hf
  | cons e rest ih =>
    rw [List.all_cons, Bool.and_eq_true] at h
    unfold tableFind at hf
    split at hf
    · next he => injection hf with hv; exact he ▸ hv ▸ h.1
    · exact ih h.2 hf

/-- What holds of the default and of every listed value holds of what any number reads as. -/
theorem tableGet_all (p : α → Bool) {dflt : α} {t : Table α} (hd : p dflt = true)
    (h : t.all (fun e => p e.2) = true) (k : Nat) : p (tableGet dflt t k) = true := by
  unfold tableGet
  cases hf : tableFind t k with
  | none => exact hd
  | some v => exact tableFind_all (fun _ v => p v) h hf

/-! Rising order -/

theorem rising_iff (t : Table α) : rising t = true ↔ t.Pairwise (fun a b => a.1 < b.1) := by
  match t with
  | [] => simp [rising]
  | [_] => simp [rising]
  | a :: b :: rest =>
    rw [rising, Bool.and_eq_true, decide_eq_true_eq, rising_iff (b :: rest), List.pairwise_cons (a := a)]
    constructor
    · rintro ⟨h, hp⟩
      refine ⟨fun c hc => ?_, hp⟩
      rcases List.mem_cons.1 hc with rfl | hc
      · exact h
      · exact Nat.lt_trans h ((List.pairwise_cons.1 hp).1 c hc)
    · rintro ⟨h, hp⟩
      exact ⟨h b List.mem_cons_self, hp⟩

theorem mem_tableInsert (t : Table α) (k : Nat) (v : α) (e : Nat × α) :
    e ∈ tableInsert t k v → e = (k, v) ∨ e ∈ t := by
  induction t with
  | nil => simp [tableInsert]
  | cons f rest ih =>
    simp only [tableInsert]
    split
    · simp
    · split
      · simp only [List.mem_cons]; tauto
      · simp only [List.mem_cons]; tauto

theorem rising_insert (t : Table α) (k : Nat) (v : α) (h : rising t = true) : rising (tableInsert t k v) = true := by
  rw [rising_iff] at h ⊢
  induction t with
  | nil => simp [tableInsert]
  | cons f rest ih =>
    obtain ⟨hf, hr⟩ := List.pairwise_cons.1 h
    simp only [tableInsert]
    split
    · next hk =>
      refine List.pairwise_cons.2 ⟨fun e he => ?_, h⟩
      rcases List.mem_cons.1 he with rfl | he
      · exact hk
      · exact Nat.lt_trans hk (hf e he)
    · split
      · next hk => exact List.pairwise_cons.2 ⟨fun e he => hk ▸ hf e he, hr⟩
      · next h1 h2 =>
        refine List.pairwise_cons.2 ⟨fun e he => ?_, ih hr⟩
        rcases mem_tableInsert _ _ _ _ he with rfl | he
        · exact Nat.lt_of_le_of_ne (Nat.le_of_not_lt h1) h2
        · exact hf e he

theorem rising_erase (t : Table α) (k : Nat) (h : rising t = true) : rising (tableErase t k) = true := by
  rw [rising_iff] at h ⊢; exact h.filter _

theorem rising_cons {e : Nat × α} {t : Table α} (h : rising (e :: t) = true) :
    rising t = true ∧ ∀ x ∈ t, e.1 < x.1 := by
  rw [rising_iff] at h
  exact ⟨(rising_iff t).2 (List.pairwise_cons.1 h).2, (List.pairwise_cons.1 h).1⟩

/-- In a rising table every listed entry is the one its number finds. -/
theorem tableFind_eq_some_iff {t : Table α} (h : rising t = true) (k : Nat) (v : α) :
    tableFind t k = some v ↔ (k, v) ∈ t := by
  induction t with
  | nil => simp [tableFind]
  | cons e rest ih =>
    obtain ⟨hr, hlt⟩ := rising_cons h
    simp only [tableFind, List.mem_cons]
    split
    · next he =>
      subst he
      constructor
      · intro hv; injection hv with hv; subst hv; exact Or.inl rfl
      · rintro (hv | hv)
        · rw [← hv]
        · exact absurd (hlt _ hv) (Nat.lt_irrefl _)
    · next he =>
      rw [ih hr]
      constructor
      · exact Or.inr
      · rintro (hv | hv)
        · rw [← hv] at he; exact absurd rfl he
        · exact hv

/-! The canonical form -/

theorem canonical_put [DecidableEq α] (dflt : α) (t : Table α) (k : Nat) (v : α) (h : canonical dflt t = true) :
    canonical dflt (tablePut dflt t k v) = true := by
  simp only [canonical, Bool.and_eq_true, List.all_eq_true, decide_eq_true_eq] at h ⊢
  unfold tablePut
  split
  · exact ⟨rising_erase _ _ h.1, fun e he => h.2 e (List.mem_of_mem_filter he)⟩
  · next hv =>
    refine ⟨rising_insert _ _ _ h.1, fun e he => ?_⟩
    rcases mem_tableInsert _ _ _ _ he with rfl | he
    · exact hv
    · exact h.2 e he

theorem canonical_erase [DecidableEq α] (dflt : α) (t : Table α) (k : Nat) (h : canonical dflt t = true) :
    canonical dflt (tableErase t k) = true := by
  simp only [canonical, Bool.and_eq_true, List.all_eq_true, decide_eq_true_eq] at h ⊢
  exact ⟨rising_erase _ _ h.1, fun e he => h.2 e (List.mem_of_mem_filter he)⟩

theorem canonical_rising [DecidableEq α] {dflt : α} {t : Table α} (h : canonical dflt t = true) : rising t = true := by
  simp only [canonical, Bool.and_eq_true] at h; exact h.1

theorem canonical_emptyRunBack (n : Nat) (dir : Table DirSlot) (j : Nat) (h : canonical .empty dir = true) :
    canonical .empty (emptyRunBack n dir j) = true := by
  induction n generalizing dir j with
  | zero => exact h
  | succ n ih =>
    simp only [emptyRunBack]
    split
    · exact ih _ _ (canonical_erase _ _ _ h)
    · exact h
    · exact h

theorem canonical_vacate (dir : Table DirSlot) (j : Nat) (h : canonical .empty dir = true) :
    canonical .empty (vacate dir j) = true := by
  simp only [vacate]
  split
  · exact canonical_emptyRunBack _ _ _ (canonical_put _ _ _ _ h)
  · exact canonical_put _ _ _ _ h
  · exact canonical_put _ _ _ _ h

end Sys2Proof.Machine
end

