-- ==== Sys2Proof/Laws/State.lean ====
section
/-! SUPPORT. What each named update of a change-set and of the state does to each field: no later proof unfolds a record
update. -/

namespace Sys2Proof.Machine

variable (d : Draft) (s : State)

/-! Change-sets: updates of the records -/

@[simp] theorem Draft.mapRecords_records (f : Records → Records) :
    (d.mapRecords f).records = f d.records := rfl
@[simp] theorem Draft.mapRecords_qual (f : Records → Records) : (d.mapRecords f).qual = d.qual := rfl
@[simp] theorem Draft.mapRecords_events (f : Records → Records) : (d.mapRecords f).events = d.events := rfl
@[simp] theorem Draft.mapRecords_dirHigh (f : Records → Records) : (d.mapRecords f).dirHigh = d.dirHigh := rfl
@[simp] theorem Draft.mapRecords_holdsHigh (f : Records → Records) : (d.mapRecords f).holdsHigh = d.holdsHigh := rfl
@[simp] theorem Draft.mapRecords_now (f : Records → Records) : (d.mapRecords f).now = d.now := rfl
@[simp] theorem Draft.mapRecords_clearsAlarm (f : Records → Records) : (d.mapRecords f).clearsAlarm = d.clearsAlarm := rfl
@[simp] theorem Draft.mapRecords_finish (f : Records → Records) : (d.mapRecords f).finish = d.finish := rfl

@[simp] theorem Draft.commit_records :
    (d.commit).records = { d.records with totals := { d.records.totals with floor := d.now } } := rfl
@[simp] theorem Draft.commit_qual : (d.commit).qual = d.qual := rfl
@[simp] theorem Draft.commit_events : (d.commit).events = d.events := rfl
@[simp] theorem Draft.commit_dirHigh : (d.commit).dirHigh = d.dirHigh := rfl
@[simp] theorem Draft.commit_holdsHigh : (d.commit).holdsHigh = d.holdsHigh := rfl
@[simp] theorem Draft.commit_now : (d.commit).now = d.now := rfl
@[simp] theorem Draft.commit_clearsAlarm : (d.commit).clearsAlarm = d.clearsAlarm := rfl
@[simp] theorem Draft.commit_finish : (d.commit).finish = d.finish := rfl

@[simp] theorem Draft.putCard_records (j : Nat) (c : Card) :
    (d.putCard j c).records = { d.records with cards := tableInsert d.records.cards j c } := rfl
@[simp] theorem Draft.putCard_qual (j : Nat) (c : Card) : (d.putCard j c).qual = d.qual := rfl
@[simp] theorem Draft.putCard_events (j : Nat) (c : Card) : (d.putCard j c).events = d.events := rfl
@[simp] theorem Draft.putCard_dirHigh (j : Nat) (c : Card) : (d.putCard j c).dirHigh = d.dirHigh := rfl
@[simp] theorem Draft.putCard_holdsHigh (j : Nat) (c : Card) : (d.putCard j c).holdsHigh = d.holdsHigh := rfl
@[simp] theorem Draft.putCard_now (j : Nat) (c : Card) : (d.putCard j c).now = d.now := rfl
@[simp] theorem Draft.putCard_clearsAlarm (j : Nat) (c : Card) : (d.putCard j c).clearsAlarm = d.clearsAlarm := rfl
@[simp] theorem Draft.putCard_finish (j : Nat) (c : Card) : (d.putCard j c).finish = d.finish := rfl

@[simp] theorem Draft.putMerchant_records (m : Nat) (x : Merchant) :
    (d.putMerchant m x).records = { d.records with merchants := tablePut unenrolledMerchant d.records.merchants m x } := rfl
@[simp] theorem Draft.putMerchant_qual (m : Nat) (x : Merchant) : (d.putMerchant m x).qual = d.qual := rfl
@[simp] theorem Draft.putMerchant_events (m : Nat) (x : Merchant) : (d.putMerchant m x).events = d.events := rfl
@[simp] theorem Draft.putMerchant_dirHigh (m : Nat) (x : Merchant) : (d.putMerchant m x).dirHigh = d.dirHigh := rfl
@[simp] theorem Draft.putMerchant_holdsHigh (m : Nat) (x : Merchant) : (d.putMerchant m x).holdsHigh = d.holdsHigh := rfl
@[simp] theorem Draft.putMerchant_now (m : Nat) (x : Merchant) : (d.putMerchant m x).now = d.now := rfl
@[simp] theorem Draft.putMerchant_clearsAlarm (m : Nat) (x : Merchant) : (d.putMerchant m x).clearsAlarm = d.clearsAlarm := rfl
@[simp] theorem Draft.putMerchant_finish (m : Nat) (x : Merchant) : (d.putMerchant m x).finish = d.finish := rfl

@[simp] theorem Draft.putEntry_records (m : Nat) (e : Entry) :
    (d.putEntry m e).records = 
      { d.records with openBank :=
        { d.records.openBank with entries := tablePut zeroEntry d.records.openBank.entries m e } } := rfl
@[simp] theorem Draft.putEntry_qual (m : Nat) (e : Entry) : (d.putEntry m e).qual = d.qual := rfl
@[simp] theorem Draft.putEntry_events (m : Nat) (e : Entry) : (d.putEntry m e).events = d.events := rfl
@[simp] theorem Draft.putEntry_dirHigh (m : Nat) (e : Entry) : (d.putEntry m e).dirHigh = d.dirHigh := rfl
@[simp] theorem Draft.putEntry_holdsHigh (m : Nat) (e : Entry) : (d.putEntry m e).holdsHigh = d.holdsHigh := rfl
@[simp] theorem Draft.putEntry_now (m : Nat) (e : Entry) : (d.putEntry m e).now = d.now := rfl
@[simp] theorem Draft.putEntry_clearsAlarm (m : Nat) (e : Entry) : (d.putEntry m e).clearsAlarm = d.clearsAlarm := rfl
@[simp] theorem Draft.putEntry_finish (m : Nat) (e : Entry) : (d.putEntry m e).finish = d.finish := rfl

@[simp] theorem Draft.markSaturated_records (hit : Bool) :
    (d.markSaturated hit).records = 
      { d.records with openBank := { d.records.openBank with saturated := d.records.openBank.saturated || hit } } := rfl
@[simp] theorem Draft.markSaturated_qual (hit : Bool) : (d.markSaturated hit).qual = d.qual := rfl
@[simp] theorem Draft.markSaturated_events (hit : Bool) : (d.markSaturated hit).events = d.events := rfl
@[simp] theorem Draft.markSaturated_dirHigh (hit : Bool) : (d.markSaturated hit).dirHigh = d.dirHigh := rfl
@[simp] theorem Draft.markSaturated_holdsHigh (hit : Bool) : (d.markSaturated hit).holdsHigh = d.holdsHigh := rfl
@[simp] theorem Draft.markSaturated_now (hit : Bool) : (d.markSaturated hit).now = d.now := rfl
@[simp] theorem Draft.markSaturated_clearsAlarm (hit : Bool) : (d.markSaturated hit).clearsAlarm = d.clearsAlarm := rfl
@[simp] theorem Draft.markSaturated_finish (hit : Bool) : (d.markSaturated hit).finish = d.finish := rfl

@[simp] theorem Draft.post_records (m : Nat) (a : Accum) (x : Nat) :
    (d.post m a x).records = 
      { d.records with openBank :=
        { d.records.openBank with
          entries := tablePut zeroEntry d.records.openBank.entries m (raiseEntry (openEntry d.records m) a x)
          saturated := d.records.openBank.saturated || overflows (accumGet (openEntry d.records m) a + x) } } := rfl
@[simp] theorem Draft.post_qual (m : Nat) (a : Accum) (x : Nat) : (d.post m a x).qual = d.qual := rfl
@[simp] theorem Draft.post_events (m : Nat) (a : Accum) (x : Nat) : (d.post m a x).events = d.events := rfl
@[simp] theorem Draft.post_dirHigh (m : Nat) (a : Accum) (x : Nat) : (d.post m a x).dirHigh = d.dirHigh := rfl
@[simp] theorem Draft.post_holdsHigh (m : Nat) (a : Accum) (x : Nat) : (d.post m a x).holdsHigh = d.holdsHigh := rfl
@[simp] theorem Draft.post_now (m : Nat) (a : Accum) (x : Nat) : (d.post m a x).now = d.now := rfl
@[simp] theorem Draft.post_clearsAlarm (m : Nat) (a : Accum) (x : Nat) : (d.post m a x).clearsAlarm = d.clearsAlarm := rfl
@[simp] theorem Draft.post_finish (m : Nat) (a : Accum) (x : Nat) : (d.post m a x).finish = d.finish := rfl

@[simp] theorem Draft.addOutstanding_records (x : Int) :
    (d.addOutstanding x).records = 
      { d.records with
        totals := { d.records.totals with outstanding := satPos (d.records.totals.outstanding + x) }
        openBank :=
          { d.records.openBank with
            saturated := d.records.openBank.saturated || overflows (d.records.totals.outstanding + x) } } := rfl
@[simp] theorem Draft.addOutstanding_qual (x : Int) : (d.addOutstanding x).qual = d.qual := rfl
@[simp] theorem Draft.addOutstanding_events (x : Int) : (d.addOutstanding x).events = d.events := rfl
@[simp] theorem Draft.addOutstanding_dirHigh (x : Int) : (d.addOutstanding x).dirHigh = d.dirHigh := rfl
@[simp] theorem Draft.addOutstanding_holdsHigh (x : Int) : (d.addOutstanding x).holdsHigh = d.holdsHigh := rfl
@[simp] theorem Draft.addOutstanding_now (x : Int) : (d.addOutstanding x).now = d.now := rfl
@[simp] theorem Draft.addOutstanding_clearsAlarm (x : Int) : (d.addOutstanding x).clearsAlarm = d.clearsAlarm := rfl
@[simp] theorem Draft.addOutstanding_finish (x : Int) : (d.addOutstanding x).finish = d.finish := rfl

@[simp] theorem Draft.addRetired_records (x : Int) :
    (d.addRetired x).records = 
      { d.records with
        totals := { d.records.totals with retiredValue := satPos (d.records.totals.retiredValue + x) }
        openBank :=
          { d.records.openBank with
            retiredInPeriod := satPos (d.records.openBank.retiredInPeriod + x)
            saturated := d.records.openBank.saturated ||
              (overflows (d.records.totals.retiredValue + x) ||
                overflows (d.records.openBank.retiredInPeriod + x)) } } := rfl
@[simp] theorem Draft.addRetired_qual (x : Int) : (d.addRetired x).qual = d.qual := rfl
@[simp] theorem Draft.addRetired_events (x : Int) : (d.addRetired x).events = d.events := rfl
@[simp] theorem Draft.addRetired_dirHigh (x : Int) : (d.addRetired x).dirHigh = d.dirHigh := rfl
@[simp] theorem Draft.addRetired_holdsHigh (x : Int) : (d.addRetired x).holdsHigh = d.holdsHigh := rfl
@[simp] theorem Draft.addRetired_now (x : Int) : (d.addRetired x).now = d.now := rfl
@[simp] theorem Draft.addRetired_clearsAlarm (x : Int) : (d.addRetired x).clearsAlarm = d.clearsAlarm := rfl
@[simp] theorem Draft.addRetired_finish (x : Int) : (d.addRetired x).finish = d.finish := rfl

@[simp] theorem Draft.placeCard_records (j : Nat) (c : Card) :
    (d.placeCard j c).records = 
      { d.records with
        directory := tablePut .empty d.records.directory j (.used c.serial)
        occupancy := d.records.occupancy + 1
        cards := tableInsert d.records.cards j c } := rfl
@[simp] theorem Draft.placeCard_qual (j : Nat) (c : Card) : (d.placeCard j c).qual = d.qual := rfl
@[simp] theorem Draft.placeCard_events (j : Nat) (c : Card) : (d.placeCard j c).events = d.events := rfl
@[simp] theorem Draft.placeCard_dirHigh (j : Nat) (c : Card) : (d.placeCard j c).dirHigh = d.dirHigh := rfl
@[simp] theorem Draft.placeCard_holdsHigh (j : Nat) (c : Card) : (d.placeCard j c).holdsHigh = d.holdsHigh := rfl
@[simp] theorem Draft.placeCard_now (j : Nat) (c : Card) : (d.placeCard j c).now = d.now := rfl
@[simp] theorem Draft.placeCard_clearsAlarm (j : Nat) (c : Card) : (d.placeCard j c).clearsAlarm = d.clearsAlarm := rfl
@[simp] theorem Draft.placeCard_finish (j : Nat) (c : Card) : (d.placeCard j c).finish = d.finish := rfl

@[simp] theorem Draft.purgeCard_records (j : Nat) :
    (d.purgeCard j).records = 
      { d.records with
        directory := vacate d.records.directory j
        occupancy := d.records.occupancy - 1
        cards := tableErase d.records.cards j } := rfl
@[simp] theorem Draft.purgeCard_qual (j : Nat) : (d.purgeCard j).qual = d.qual := rfl
@[simp] theorem Draft.purgeCard_events (j : Nat) : (d.purgeCard j).events = d.events := rfl
@[simp] theorem Draft.purgeCard_dirHigh (j : Nat) : (d.purgeCard j).dirHigh = d.dirHigh := rfl
@[simp] theorem Draft.purgeCard_holdsHigh (j : Nat) : (d.purgeCard j).holdsHigh = d.holdsHigh := rfl
@[simp] theorem Draft.purgeCard_now (j : Nat) : (d.purgeCard j).now = d.now := rfl
@[simp] theorem Draft.purgeCard_clearsAlarm (j : Nat) : (d.purgeCard j).clearsAlarm = d.clearsAlarm := rfl
@[simp] theorem Draft.purgeCard_finish (j : Nat) : (d.purgeCard j).finish = d.finish := rfl

@[simp] theorem Draft.addHold_records (h : Hold) :
    (d.addHold h).records = 
      { d.records with
        holds := insertHold h d.records.holds
        holdIdCounter := nextHoldId h.id
        merchants := tablePut unenrolledMerchant d.records.merchants h.merchant
          { merchantOf d.records h.merchant with openHolds := (merchantOf d.records h.merchant).openHolds + 1 } } := rfl
@[simp] theorem Draft.addHold_qual (h : Hold) : (d.addHold h).qual = d.qual := rfl
@[simp] theorem Draft.addHold_events (h : Hold) : (d.addHold h).events = d.events := rfl
@[simp] theorem Draft.addHold_dirHigh (h : Hold) : (d.addHold h).dirHigh = d.dirHigh := rfl
@[simp] theorem Draft.addHold_holdsHigh (h : Hold) : (d.addHold h).holdsHigh = d.holdsHigh := rfl
@[simp] theorem Draft.addHold_now (h : Hold) : (d.addHold h).now = d.now := rfl
@[simp] theorem Draft.addHold_clearsAlarm (h : Hold) : (d.addHold h).clearsAlarm = d.clearsAlarm := rfl
@[simp] theorem Draft.addHold_finish (h : Hold) : (d.addHold h).finish = d.finish := rfl

@[simp] theorem Draft.removeHold_records (h : Hold) :
    (d.removeHold h).records = 
      { d.records with
        holds := eraseHold d.records.holds h.id
        merchants := tablePut unenrolledMerchant d.records.merchants h.merchant
          { merchantOf d.records h.merchant with openHolds := (merchantOf d.records h.merchant).openHolds - 1 } } := rfl
@[simp] theorem Draft.removeHold_qual (h : Hold) : (d.removeHold h).qual = d.qual := rfl
@[simp] theorem Draft.removeHold_events (h : Hold) : (d.removeHold h).events = d.events := rfl
@[simp] theorem Draft.removeHold_dirHigh (h : Hold) : (d.removeHold h).dirHigh = d.dirHigh := rfl
@[simp] theorem Draft.removeHold_holdsHigh (h : Hold) : (d.removeHold h).holdsHigh = d.holdsHigh := rfl
@[simp] theorem Draft.removeHold_now (h : Hold) : (d.removeHold h).now = d.now := rfl
@[simp] theorem Draft.removeHold_clearsAlarm (h : Hold) : (d.removeHold h).clearsAlarm = d.clearsAlarm := rfl
@[simp] theorem Draft.removeHold_finish (h : Hold) : (d.removeHold h).finish = d.finish := rfl

@[simp] theorem Draft.putLimits_records (l : Limits) :
    (d.putLimits l).records = { d.records with limits := l, totals := { d.records.totals with floor := d.now } } := rfl
@[simp] theorem Draft.putLimits_qual (l : Limits) : (d.putLimits l).qual = d.qual := rfl
@[simp] theorem Draft.putLimits_events (l : Limits) : (d.putLimits l).events = d.events := rfl
@[simp] theorem Draft.putLimits_dirHigh (l : Limits) : (d.putLimits l).dirHigh = d.dirHigh := rfl
@[simp] theorem Draft.putLimits_holdsHigh (l : Limits) : (d.putLimits l).holdsHigh = d.holdsHigh := rfl
@[simp] theorem Draft.putLimits_now (l : Limits) : (d.putLimits l).now = d.now := rfl
@[simp] theorem Draft.putLimits_clearsAlarm (l : Limits) : (d.putLimits l).clearsAlarm = d.clearsAlarm := rfl
@[simp] theorem Draft.putLimits_finish (l : Limits) : (d.putLimits l).finish = d.finish := rfl

/-! Change-sets: updates beside the records -/

@[simp] theorem Draft.raise_records (e : Event) : (d.raise e).records = d.records := rfl
@[simp] theorem Draft.raise_qual (e : Event) : (d.raise e).qual = d.qual := rfl
@[simp] theorem Draft.raise_events (e : Event) : (d.raise e).events = d.events ||| eventBit e := rfl
@[simp] theorem Draft.raise_dirHigh (e : Event) : (d.raise e).dirHigh = d.dirHigh := rfl
@[simp] theorem Draft.raise_holdsHigh (e : Event) : (d.raise e).holdsHigh = d.holdsHigh := rfl
@[simp] theorem Draft.raise_now (e : Event) : (d.raise e).now = d.now := rfl
@[simp] theorem Draft.raise_clearsAlarm (e : Event) : (d.raise e).clearsAlarm = d.clearsAlarm := rfl
@[simp] theorem Draft.raise_finish (e : Event) : (d.raise e).finish = d.finish := rfl

@[simp] theorem Draft.spendEvents_records (c : Card) : (d.spendEvents c).records = d.records := rfl
@[simp] theorem Draft.spendEvents_qual (c : Card) : (d.spendEvents c).qual = d.qual := rfl
@[simp] theorem Draft.spendEvents_events (c : Card) : (d.spendEvents c).events = d.events ||| spendBit d.records.limits d.now c := rfl
@[simp] theorem Draft.spendEvents_dirHigh (c : Card) : (d.spendEvents c).dirHigh = d.dirHigh := rfl
@[simp] theorem Draft.spendEvents_holdsHigh (c : Card) : (d.spendEvents c).holdsHigh = d.holdsHigh := rfl
@[simp] theorem Draft.spendEvents_now (c : Card) : (d.spendEvents c).now = d.now := rfl
@[simp] theorem Draft.spendEvents_clearsAlarm (c : Card) : (d.spendEvents c).clearsAlarm = d.clearsAlarm := rfl
@[simp] theorem Draft.spendEvents_finish (c : Card) : (d.spendEvents c).finish = d.finish := rfl

@[simp] theorem Draft.evalDirHigh_records : (d.evalDirHigh).records = d.records := rfl
@[simp] theorem Draft.evalDirHigh_qual : (d.evalDirHigh).qual = d.qual := rfl
@[simp] theorem Draft.evalDirHigh_events : (d.evalDirHigh).events = d.events ||| latchBit d.dirHigh (dirHighTest d.records) := rfl
@[simp] theorem Draft.evalDirHigh_dirHigh : (d.evalDirHigh).dirHigh = evalFlag d.dirHigh (dirHighTest d.records) := rfl
@[simp] theorem Draft.evalDirHigh_holdsHigh : (d.evalDirHigh).holdsHigh = d.holdsHigh := rfl
@[simp] theorem Draft.evalDirHigh_now : (d.evalDirHigh).now = d.now := rfl
@[simp] theorem Draft.evalDirHigh_clearsAlarm : (d.evalDirHigh).clearsAlarm = d.clearsAlarm := rfl
@[simp] theorem Draft.evalDirHigh_finish : (d.evalDirHigh).finish = d.finish := rfl

@[simp] theorem Draft.evalHoldsHigh_records : (d.evalHoldsHigh).records = d.records := rfl
@[simp] theorem Draft.evalHoldsHigh_qual : (d.evalHoldsHigh).qual = d.qual := rfl
@[simp] theorem Draft.evalHoldsHigh_events : (d.evalHoldsHigh).events = d.events ||| latchBit d.holdsHigh (holdsHighTest d.records) := rfl
@[simp] theorem Draft.evalHoldsHigh_dirHigh : (d.evalHoldsHigh).dirHigh = d.dirHigh := rfl
@[simp] theorem Draft.evalHoldsHigh_holdsHigh : (d.evalHoldsHigh).holdsHigh = evalFlag d.holdsHigh (holdsHighTest d.records) := rfl
@[simp] theorem Draft.evalHoldsHigh_now : (d.evalHoldsHigh).now = d.now := rfl
@[simp] theorem Draft.evalHoldsHigh_clearsAlarm : (d.evalHoldsHigh).clearsAlarm = d.clearsAlarm := rfl
@[simp] theorem Draft.evalHoldsHigh_finish : (d.evalHoldsHigh).finish = d.finish := rfl

@[simp] theorem Draft.cutover_records : (d.cutover).records = cutoverRecords d.records d.now := rfl
@[simp] theorem Draft.cutover_qual : (d.cutover).qual = [] := rfl
@[simp] theorem Draft.cutover_events : (d.cutover).events = d.events ||| 0x04#8 := rfl
@[simp] theorem Draft.cutover_dirHigh : (d.cutover).dirHigh = d.dirHigh := rfl
@[simp] theorem Draft.cutover_holdsHigh : (d.cutover).holdsHigh = d.holdsHigh := rfl
@[simp] theorem Draft.cutover_now : (d.cutover).now = d.now := rfl
@[simp] theorem Draft.cutover_clearsAlarm : (d.cutover).clearsAlarm = true := rfl
@[simp] theorem Draft.cutover_finish : (d.cutover).finish = d.finish := rfl

/-! The change-set a posting starts from -/

@[simp] theorem startDraft_records : (startDraft s).records = s.records := rfl
@[simp] theorem startDraft_qual : (startDraft s).qual = s.qual := rfl
@[simp] theorem startDraft_events : (startDraft s).events = 0x00#8 := rfl
@[simp] theorem startDraft_dirHigh : (startDraft s).dirHigh = s.dirHigh := rfl
@[simp] theorem startDraft_holdsHigh : (startDraft s).holdsHigh = s.holdsHigh := rfl
@[simp] theorem startDraft_now : (startDraft s).now = s.clock.value := rfl
@[simp] theorem startDraft_clearsAlarm : (startDraft s).clearsAlarm = false := rfl
@[simp] theorem startDraft_finish : (startDraft s).finish = .plain := rfl

/-! The state -/

@[simp] theorem State.raise_records (e : Event) : (s.raise e).records = s.records := rfl
@[simp] theorem State.raise_clock (e : Event) : (s.raise e).clock = s.clock := rfl
@[simp] theorem State.raise_port (e : Event) : (s.raise e).port = s.port := rfl
@[simp] theorem State.raise_lastKind (e : Event) : (s.raise e).lastKind = s.lastKind := rfl
@[simp] theorem State.raise_posting (e : Event) : (s.raise e).posting = s.posting := rfl
@[simp] theorem State.raise_expiryWaiting (e : Event) : (s.raise e).expiryWaiting = s.expiryWaiting := rfl
@[simp] theorem State.raise_alarmPending (e : Event) : (s.raise e).alarmPending = s.alarmPending := rfl
@[simp] theorem State.raise_qual (e : Event) : (s.raise e).qual = s.qual := rfl
@[simp] theorem State.raise_events (e : Event) : (s.raise e).events = s.events ||| eventBit e := rfl
@[simp] theorem State.raise_dirHigh (e : Event) : (s.raise e).dirHigh = s.dirHigh := rfl
@[simp] theorem State.raise_holdsHigh (e : Event) : (s.raise e).holdsHigh = s.holdsHigh := rfl
@[simp] theorem State.raise_supplyLow (e : Event) : (s.raise e).supplyLow = s.supplyLow := rfl
@[simp] theorem State.raise_supply (e : Event) : (s.raise e).supply = s.supply := rfl
@[simp] theorem State.raise_guard (e : Event) : (s.raise e).guard = s.guard := rfl
@[simp] theorem State.raise_reading (e : Event) : (s.raise e).reading = s.reading := rfl
@[simp] theorem State.raise_vhold (e : Event) : (s.raise e).vhold = s.vhold := rfl
@[simp] theorem State.raise_powered (e : Event) : (s.raise e).powered = s.powered := rfl
@[simp] theorem State.raise_nResetLow (e : Event) : (s.raise e).nResetLow = s.nResetLow := rfl
@[simp] theorem State.raise_nSelLow (e : Event) : (s.raise e).nSelLow = s.nSelLow := rfl
@[simp] theorem State.raise_clockNeededHeld (e : Event) : (s.raise e).clockNeededHeld = s.clockNeededHeld := rfl
@[simp] theorem State.raise_pending (e : Event) : (s.raise e).pending = s.pending := rfl

@[simp] theorem setValue_records (v : Nat) : (setValue s v).records = s.records := rfl
@[simp] theorem setValue_clock (v : Nat) : (setValue s v).clock = { s.clock with value := v } := rfl
@[simp] theorem setValue_port (v : Nat) : (setValue s v).port = s.port := rfl
@[simp] theorem setValue_lastKind (v : Nat) : (setValue s v).lastKind = s.lastKind := rfl
@[simp] theorem setValue_posting (v : Nat) : (setValue s v).posting = s.posting := rfl
@[simp] theorem setValue_expiryWaiting (v : Nat) : (setValue s v).expiryWaiting = s.expiryWaiting := rfl
@[simp] theorem setValue_alarmPending (v : Nat) : (setValue s v).alarmPending = s.alarmPending := rfl
@[simp] theorem setValue_qual (v : Nat) : (setValue s v).qual = s.qual := rfl
@[simp] theorem setValue_events (v : Nat) : (setValue s v).events = s.events := rfl
@[simp] theorem setValue_dirHigh (v : Nat) : (setValue s v).dirHigh = s.dirHigh := rfl
@[simp] theorem setValue_holdsHigh (v : Nat) : (setValue s v).holdsHigh = s.holdsHigh := rfl
@[simp] theorem setValue_supplyLow (v : Nat) : (setValue s v).supplyLow = s.supplyLow := rfl
@[simp] theorem setValue_supply (v : Nat) : (setValue s v).supply = s.supply := rfl
@[simp] theorem setValue_guard (v : Nat) : (setValue s v).guard = s.guard := rfl
@[simp] theorem setValue_reading (v : Nat) : (setValue s v).reading = s.reading := rfl
@[simp] theorem setValue_vhold (v : Nat) : (setValue s v).vhold = s.vhold := rfl
@[simp] theorem setValue_powered (v : Nat) : (setValue s v).powered = s.powered := rfl
@[simp] theorem setValue_nResetLow (v : Nat) : (setValue s v).nResetLow = s.nResetLow := rfl
@[simp] theorem setValue_nSelLow (v : Nat) : (setValue s v).nSelLow = s.nSelLow := rfl
@[simp] theorem setValue_clockNeededHeld (v : Nat) : (setValue s v).clockNeededHeld = s.clockNeededHeld := rfl
@[simp] theorem setValue_pending (v : Nat) : (setValue s v).pending = s.pending := rfl

@[simp] theorem measure_records (r : SupplyReading) : (measure s r).records = s.records := rfl
@[simp] theorem measure_clock (r : SupplyReading) : (measure s r).clock = s.clock := rfl
@[simp] theorem measure_port (r : SupplyReading) : (measure s r).port = s.port := rfl
@[simp] theorem measure_lastKind (r : SupplyReading) : (measure s r).lastKind = s.lastKind := rfl
@[simp] theorem measure_posting (r : SupplyReading) : (measure s r).posting = s.posting := rfl
@[simp] theorem measure_expiryWaiting (r : SupplyReading) : (measure s r).expiryWaiting = s.expiryWaiting := rfl
@[simp] theorem measure_alarmPending (r : SupplyReading) : (measure s r).alarmPending = s.alarmPending := rfl
@[simp] theorem measure_qual (r : SupplyReading) : (measure s r).qual = s.qual := rfl
@[simp] theorem measure_events (r : SupplyReading) : (measure s r).events = s.events := rfl
@[simp] theorem measure_dirHigh (r : SupplyReading) : (measure s r).dirHigh = s.dirHigh := rfl
@[simp] theorem measure_holdsHigh (r : SupplyReading) : (measure s r).holdsHigh = s.holdsHigh := rfl
@[simp] theorem measure_supplyLow (r : SupplyReading) : (measure s r).supplyLow = s.supplyLow := rfl
@[simp] theorem measure_supply (r : SupplyReading) : (measure s r).supply = s.supply := rfl
@[simp] theorem measure_guard (r : SupplyReading) : (measure s r).guard = s.guard := rfl
@[simp] theorem measure_reading (r : SupplyReading) : (measure s r).reading = r := rfl
@[simp] theorem measure_vhold (r : SupplyReading) : (measure s r).vhold = s.vhold := rfl
@[simp] theorem measure_powered (r : SupplyReading) : (measure s r).powered = s.powered := rfl
@[simp] theorem measure_nResetLow (r : SupplyReading) : (measure s r).nResetLow = s.nResetLow := rfl
@[simp] theorem measure_nSelLow (r : SupplyReading) : (measure s r).nSelLow = s.nSelLow := rfl
@[simp] theorem measure_clockNeededHeld (r : SupplyReading) : (measure s r).clockNeededHeld = s.clockNeededHeld := rfl
@[simp] theorem measure_pending (r : SupplyReading) : (measure s r).pending = s.pending := rfl

@[simp] theorem answerSlot_records (q : Slot) (a : Answer) : (answerSlot s q a).records = s.records := rfl
@[simp] theorem answerSlot_clock (q : Slot) (a : Answer) : (answerSlot s q a).clock = s.clock := rfl
@[simp] theorem answerSlot_port (q : Slot) (a : Answer) :
    (answerSlot s q a).port = 
      { s.port with
        accepted := s.port.accepted.filter (fun p => decide (p.place ≠ q.place))
        delivery := s.port.delivery ++ [{ slot := q, answer := a }] } := rfl
@[simp] theorem answerSlot_lastKind (q : Slot) (a : Answer) : (answerSlot s q a).lastKind = s.lastKind := rfl
@[simp] theorem answerSlot_posting (q : Slot) (a : Answer) : (answerSlot s q a).posting = s.posting := rfl
@[simp] theorem answerSlot_expiryWaiting (q : Slot) (a : Answer) : (answerSlot s q a).expiryWaiting = s.expiryWaiting := rfl
@[simp] theorem answerSlot_alarmPending (q : Slot) (a : Answer) : (answerSlot s q a).alarmPending = s.alarmPending := rfl
@[simp] theorem answerSlot_qual (q : Slot) (a : Answer) : (answerSlot s q a).qual = s.qual := rfl
@[simp] theorem answerSlot_events (q : Slot) (a : Answer) : (answerSlot s q a).events = s.events := rfl
@[simp] theorem answerSlot_dirHigh (q : Slot) (a : Answer) : (answerSlot s q a).dirHigh = s.dirHigh := rfl
@[simp] theorem answerSlot_holdsHigh (q : Slot) (a : Answer) : (answerSlot s q a).holdsHigh = s.holdsHigh := rfl
@[simp] theorem answerSlot_supplyLow (q : Slot) (a : Answer) : (answerSlot s q a).supplyLow = s.supplyLow := rfl
@[simp] theorem answerSlot_supply (q : Slot) (a : Answer) : (answerSlot s q a).supply = s.supply := rfl
@[simp] theorem answerSlot_guard (q : Slot) (a : Answer) : (answerSlot s q a).guard = s.guard := rfl
@[simp] theorem answerSlot_reading (q : Slot) (a : Answer) : (answerSlot s q a).reading = s.reading := rfl
@[simp] theorem answerSlot_vhold (q : Slot) (a : Answer) : (answerSlot s q a).vhold = s.vhold := rfl
@[simp] theorem answerSlot_powered (q : Slot) (a : Answer) : (answerSlot s q a).powered = s.powered := rfl
@[simp] theorem answerSlot_nResetLow (q : Slot) (a : Answer) : (answerSlot s q a).nResetLow = s.nResetLow := rfl
@[simp] theorem answerSlot_nSelLow (q : Slot) (a : Answer) : (answerSlot s q a).nSelLow = s.nSelLow := rfl
@[simp] theorem answerSlot_clockNeededHeld (q : Slot) (a : Answer) : (answerSlot s q a).clockNeededHeld = s.clockNeededHeld := rfl
@[simp] theorem answerSlot_pending (q : Slot) (a : Answer) : (answerSlot s q a).pending = s.pending := rfl

@[simp] theorem addSlot_records (q : Slot) : (addSlot s q).records = s.records := rfl
@[simp] theorem addSlot_clock (q : Slot) : (addSlot s q).clock = s.clock := rfl
@[simp] theorem addSlot_port (q : Slot) :
    (addSlot s q).port = 
      { s.port with accepted := s.port.accepted ++ [q], nextPlace := s.port.nextPlace + 1 } := rfl
@[simp] theorem addSlot_lastKind (q : Slot) : (addSlot s q).lastKind = s.lastKind := rfl
@[simp] theorem addSlot_posting (q : Slot) : (addSlot s q).posting = s.posting := rfl
@[simp] theorem addSlot_expiryWaiting (q : Slot) : (addSlot s q).expiryWaiting = s.expiryWaiting := rfl
@[simp] theorem addSlot_alarmPending (q : Slot) : (addSlot s q).alarmPending = s.alarmPending := rfl
@[simp] theorem addSlot_qual (q : Slot) : (addSlot s q).qual = s.qual := rfl
@[simp] theorem addSlot_events (q : Slot) : (addSlot s q).events = s.events := rfl
@[simp] theorem addSlot_dirHigh (q : Slot) : (addSlot s q).dirHigh = s.dirHigh := rfl
@[simp] theorem addSlot_holdsHigh (q : Slot) : (addSlot s q).holdsHigh = s.holdsHigh := rfl
@[simp] theorem addSlot_supplyLow (q : Slot) : (addSlot s q).supplyLow = s.supplyLow := rfl
@[simp] theorem addSlot_supply (q : Slot) : (addSlot s q).supply = s.supply := rfl
@[simp] theorem addSlot_guard (q : Slot) : (addSlot s q).guard = s.guard := rfl
@[simp] theorem addSlot_reading (q : Slot) : (addSlot s q).reading = s.reading := rfl
@[simp] theorem addSlot_vhold (q : Slot) : (addSlot s q).vhold = s.vhold := rfl
@[simp] theorem addSlot_powered (q : Slot) : (addSlot s q).powered = s.powered := rfl
@[simp] theorem addSlot_nResetLow (q : Slot) : (addSlot s q).nResetLow = s.nResetLow := rfl
@[simp] theorem addSlot_nSelLow (q : Slot) : (addSlot s q).nSelLow = s.nSelLow := rfl
@[simp] theorem addSlot_clockNeededHeld (q : Slot) : (addSlot s q).clockNeededHeld = s.clockNeededHeld := rfl
@[simp] theorem addSlot_pending (q : Slot) : (addSlot s q).pending = s.pending := rfl

@[simp] theorem closeFrame_records : (closeFrame s).records = s.records := rfl
@[simp] theorem closeFrame_clock : (closeFrame s).clock = s.clock := rfl
@[simp] theorem closeFrame_port :
    (closeFrame s).port = { s.port with offered := none, frame := none } := rfl
@[simp] theorem closeFrame_lastKind : (closeFrame s).lastKind = s.lastKind := rfl
@[simp] theorem closeFrame_posting : (closeFrame s).posting = s.posting := rfl
@[simp] theorem closeFrame_expiryWaiting : (closeFrame s).expiryWaiting = s.expiryWaiting := rfl
@[simp] theorem closeFrame_alarmPending : (closeFrame s).alarmPending = s.alarmPending := rfl
@[simp] theorem closeFrame_qual : (closeFrame s).qual = s.qual := rfl
@[simp] theorem closeFrame_events : (closeFrame s).events = s.events := rfl
@[simp] theorem closeFrame_dirHigh : (closeFrame s).dirHigh = s.dirHigh := rfl
@[simp] theorem closeFrame_holdsHigh : (closeFrame s).holdsHigh = s.holdsHigh := rfl
@[simp] theorem closeFrame_supplyLow : (closeFrame s).supplyLow = s.supplyLow := rfl
@[simp] theorem closeFrame_supply : (closeFrame s).supply = s.supply := rfl
@[simp] theorem closeFrame_guard : (closeFrame s).guard = s.guard := rfl
@[simp] theorem closeFrame_reading : (closeFrame s).reading = s.reading := rfl
@[simp] theorem closeFrame_vhold : (closeFrame s).vhold = s.vhold := rfl
@[simp] theorem closeFrame_powered : (closeFrame s).powered = s.powered := rfl
@[simp] theorem closeFrame_nResetLow : (closeFrame s).nResetLow = s.nResetLow := rfl
@[simp] theorem closeFrame_nSelLow : (closeFrame s).nSelLow = s.nSelLow := rfl
@[simp] theorem closeFrame_clockNeededHeld : (closeFrame s).clockNeededHeld = s.clockNeededHeld := rfl
@[simp] theorem closeFrame_pending : (closeFrame s).pending = s.pending := rfl

@[simp] theorem setFrameFlags_records (r n : Bool) : (setFrameFlags s r n).records = s.records := rfl
@[simp] theorem setFrameFlags_clock (r n : Bool) : (setFrameFlags s r n).clock = s.clock := rfl
@[simp] theorem setFrameFlags_port (r n : Bool) :
    (setFrameFlags s r n).port = { s.port with lastRejected := r, lastNotTaken := n } := rfl
@[simp] theorem setFrameFlags_lastKind (r n : Bool) : (setFrameFlags s r n).lastKind = s.lastKind := rfl
@[simp] theorem setFrameFlags_posting (r n : Bool) : (setFrameFlags s r n).posting = s.posting := rfl
@[simp] theorem setFrameFlags_expiryWaiting (r n : Bool) : (setFrameFlags s r n).expiryWaiting = s.expiryWaiting := rfl
@[simp] theorem setFrameFlags_alarmPending (r n : Bool) : (setFrameFlags s r n).alarmPending = s.alarmPending := rfl
@[simp] theorem setFrameFlags_qual (r n : Bool) : (setFrameFlags s r n).qual = s.qual := rfl
@[simp] theorem setFrameFlags_events (r n : Bool) : (setFrameFlags s r n).events = s.events := rfl
@[simp] theorem setFrameFlags_dirHigh (r n : Bool) : (setFrameFlags s r n).dirHigh = s.dirHigh := rfl
@[simp] theorem setFrameFlags_holdsHigh (r n : Bool) : (setFrameFlags s r n).holdsHigh = s.holdsHigh := rfl
@[simp] theorem setFrameFlags_supplyLow (r n : Bool) : (setFrameFlags s r n).supplyLow = s.supplyLow := rfl
@[simp] theorem setFrameFlags_supply (r n : Bool) : (setFrameFlags s r n).supply = s.supply := rfl
@[simp] theorem setFrameFlags_guard (r n : Bool) : (setFrameFlags s r n).guard = s.guard := rfl
@[simp] theorem setFrameFlags_reading (r n : Bool) : (setFrameFlags s r n).reading = s.reading := rfl
@[simp] theorem setFrameFlags_vhold (r n : Bool) : (setFrameFlags s r n).vhold = s.vhold := rfl
@[simp] theorem setFrameFlags_powered (r n : Bool) : (setFrameFlags s r n).powered = s.powered := rfl
@[simp] theorem setFrameFlags_nResetLow (r n : Bool) : (setFrameFlags s r n).nResetLow = s.nResetLow := rfl
@[simp] theorem setFrameFlags_nSelLow (r n : Bool) : (setFrameFlags s r n).nSelLow = s.nSelLow := rfl
@[simp] theorem setFrameFlags_clockNeededHeld (r n : Bool) : (setFrameFlags s r n).clockNeededHeld = s.clockNeededHeld := rfl
@[simp] theorem setFrameFlags_pending (r n : Bool) : (setFrameFlags s r n).pending = s.pending := rfl

@[simp] theorem evalSupplyLow_records (live : Bool) : (evalSupplyLow s live).records = s.records := rfl
@[simp] theorem evalSupplyLow_clock (live : Bool) : (evalSupplyLow s live).clock = s.clock := rfl
@[simp] theorem evalSupplyLow_port (live : Bool) : (evalSupplyLow s live).port = s.port := rfl
@[simp] theorem evalSupplyLow_lastKind (live : Bool) : (evalSupplyLow s live).lastKind = s.lastKind := rfl
@[simp] theorem evalSupplyLow_posting (live : Bool) : (evalSupplyLow s live).posting = s.posting := rfl
@[simp] theorem evalSupplyLow_expiryWaiting (live : Bool) : (evalSupplyLow s live).expiryWaiting = s.expiryWaiting := rfl
@[simp] theorem evalSupplyLow_alarmPending (live : Bool) : (evalSupplyLow s live).alarmPending = s.alarmPending := rfl
@[simp] theorem evalSupplyLow_qual (live : Bool) : (evalSupplyLow s live).qual = s.qual := rfl
@[simp] theorem evalSupplyLow_events (live : Bool) : (evalSupplyLow s live).events = s.events ||| latchBit s.supplyLow live := rfl
@[simp] theorem evalSupplyLow_dirHigh (live : Bool) : (evalSupplyLow s live).dirHigh = s.dirHigh := rfl
@[simp] theorem evalSupplyLow_holdsHigh (live : Bool) : (evalSupplyLow s live).holdsHigh = s.holdsHigh := rfl
@[simp] theorem evalSupplyLow_supplyLow (live : Bool) : (evalSupplyLow s live).supplyLow = evalFlag s.supplyLow live := rfl
@[simp] theorem evalSupplyLow_supply (live : Bool) : (evalSupplyLow s live).supply = s.supply := rfl
@[simp] theorem evalSupplyLow_guard (live : Bool) : (evalSupplyLow s live).guard = s.guard := rfl
@[simp] theorem evalSupplyLow_reading (live : Bool) : (evalSupplyLow s live).reading = s.reading := rfl
@[simp] theorem evalSupplyLow_vhold (live : Bool) : (evalSupplyLow s live).vhold = s.vhold := rfl
@[simp] theorem evalSupplyLow_powered (live : Bool) : (evalSupplyLow s live).powered = s.powered := rfl
@[simp] theorem evalSupplyLow_nResetLow (live : Bool) : (evalSupplyLow s live).nResetLow = s.nResetLow := rfl
@[simp] theorem evalSupplyLow_nSelLow (live : Bool) : (evalSupplyLow s live).nSelLow = s.nSelLow := rfl
@[simp] theorem evalSupplyLow_clockNeededHeld (live : Bool) : (evalSupplyLow s live).clockNeededHeld = s.clockNeededHeld := rfl
@[simp] theorem evalSupplyLow_pending (live : Bool) : (evalSupplyLow s live).pending = s.pending := rfl

@[simp] theorem fireAlarm_records : (fireAlarm s).records = s.records := rfl
@[simp] theorem fireAlarm_clock : (fireAlarm s).clock = s.clock := rfl
@[simp] theorem fireAlarm_port : (fireAlarm s).port = s.port := rfl
@[simp] theorem fireAlarm_lastKind : (fireAlarm s).lastKind = s.lastKind := rfl
@[simp] theorem fireAlarm_posting :
    (fireAlarm s).posting = s.posting.map (fun p => { p with alarmFired := true }) := rfl
@[simp] theorem fireAlarm_expiryWaiting : (fireAlarm s).expiryWaiting = s.expiryWaiting := rfl
@[simp] theorem fireAlarm_alarmPending : (fireAlarm s).alarmPending = true := rfl
@[simp] theorem fireAlarm_qual : (fireAlarm s).qual = s.qual := rfl
@[simp] theorem fireAlarm_events : (fireAlarm s).events = s.events := rfl
@[simp] theorem fireAlarm_dirHigh : (fireAlarm s).dirHigh = s.dirHigh := rfl
@[simp] theorem fireAlarm_holdsHigh : (fireAlarm s).holdsHigh = s.holdsHigh := rfl
@[simp] theorem fireAlarm_supplyLow : (fireAlarm s).supplyLow = s.supplyLow := rfl
@[simp] theorem fireAlarm_supply : (fireAlarm s).supply = s.supply := rfl
@[simp] theorem fireAlarm_guard : (fireAlarm s).guard = s.guard := rfl
@[simp] theorem fireAlarm_reading : (fireAlarm s).reading = s.reading := rfl
@[simp] theorem fireAlarm_vhold : (fireAlarm s).vhold = s.vhold := rfl
@[simp] theorem fireAlarm_powered : (fireAlarm s).powered = s.powered := rfl
@[simp] theorem fireAlarm_nResetLow : (fireAlarm s).nResetLow = s.nResetLow := rfl
@[simp] theorem fireAlarm_nSelLow : (fireAlarm s).nSelLow = s.nSelLow := rfl
@[simp] theorem fireAlarm_clockNeededHeld : (fireAlarm s).clockNeededHeld = s.clockNeededHeld := rfl
@[simp] theorem fireAlarm_pending : (fireAlarm s).pending = s.pending := rfl

@[simp] theorem underWay_records (q : Slot) (d : Draft) (a : Answer) : (underWay s q d a).records = s.records := rfl
@[simp] theorem underWay_clock (q : Slot) (d : Draft) (a : Answer) : (underWay s q d a).clock = s.clock := rfl
@[simp] theorem underWay_port (q : Slot) (d : Draft) (a : Answer) : (underWay s q d a).port = s.port := rfl
@[simp] theorem underWay_lastKind (q : Slot) (d : Draft) (a : Answer) : (underWay s q d a).lastKind = .link := rfl
@[simp] theorem underWay_posting (q : Slot) (d : Draft) (a : Answer) :
    (underWay s q d a).posting = 
      some { kind := .link, item := .slot q.place, now := some s.clock.value, change := d, answer := some a, alarmFired := false } := rfl
@[simp] theorem underWay_expiryWaiting (q : Slot) (d : Draft) (a : Answer) : (underWay s q d a).expiryWaiting = s.expiryWaiting := rfl
@[simp] theorem underWay_alarmPending (q : Slot) (d : Draft) (a : Answer) : (underWay s q d a).alarmPending = s.alarmPending := rfl
@[simp] theorem underWay_qual (q : Slot) (d : Draft) (a : Answer) : (underWay s q d a).qual = s.qual := rfl
@[simp] theorem underWay_events (q : Slot) (d : Draft) (a : Answer) : (underWay s q d a).events = s.events := rfl
@[simp] theorem underWay_dirHigh (q : Slot) (d : Draft) (a : Answer) : (underWay s q d a).dirHigh = s.dirHigh := rfl
@[simp] theorem underWay_holdsHigh (q : Slot) (d : Draft) (a : Answer) : (underWay s q d a).holdsHigh = s.holdsHigh := rfl
@[simp] theorem underWay_supplyLow (q : Slot) (d : Draft) (a : Answer) : (underWay s q d a).supplyLow = s.supplyLow := rfl
@[simp] theorem underWay_supply (q : Slot) (d : Draft) (a : Answer) : (underWay s q d a).supply = s.supply := rfl
@[simp] theorem underWay_guard (q : Slot) (d : Draft) (a : Answer) : (underWay s q d a).guard = s.guard := rfl
@[simp] theorem underWay_reading (q : Slot) (d : Draft) (a : Answer) : (underWay s q d a).reading = s.reading := rfl
@[simp] theorem underWay_vhold (q : Slot) (d : Draft) (a : Answer) : (underWay s q d a).vhold = s.vhold := rfl
@[simp] theorem underWay_powered (q : Slot) (d : Draft) (a : Answer) : (underWay s q d a).powered = s.powered := rfl
@[simp] theorem underWay_nResetLow (q : Slot) (d : Draft) (a : Answer) : (underWay s q d a).nResetLow = s.nResetLow := rfl
@[simp] theorem underWay_nSelLow (q : Slot) (d : Draft) (a : Answer) : (underWay s q d a).nSelLow = s.nSelLow := rfl
@[simp] theorem underWay_clockNeededHeld (q : Slot) (d : Draft) (a : Answer) : (underWay s q d a).clockNeededHeld = s.clockNeededHeld := rfl
@[simp] theorem underWay_pending (q : Slot) (d : Draft) (a : Answer) : (underWay s q d a).pending = s.pending := rfl

end Sys2Proof.Machine
end

