-- ==== Sys2Proof/Laws/Evaluations.lean ====
section
/-! SUPPORT. What the evaluations of the merchant conditions and the finalisation of a retirement leave unchanged, and what
each evaluation does (R41, R42, R152, R155). -/

namespace Sys2Proof.Machine

variable (d : Draft)

/-! Merchants and entries read after a write -/

theorem merchantOf_put (r : Records) (k : Nat) (x : Merchant) (n : Nat) :
    merchantOf { r with merchants := tablePut unenrolledMerchant r.merchants k x } n =
      if n = k then x else merchantOf r n := tableGet_put _ _ _ _ _

theorem openEntry_put (r : Records) (b : Bank) (k : Nat) (e : Entry) (n : Nat) :
    openEntry { r with openBank := { b with entries := tablePut zeroEntry r.openBank.entries k e } } n =
      if n = k then e else openEntry r n := tableGet_put _ _ _ _ _

/-! Frames -/

@[simp] theorem Draft.latchRefund_directory (m : Nat) :
    (d.latchRefund m).records.directory = d.records.directory := rfl
@[simp] theorem Draft.latchRefund_occupancy (m : Nat) :
    (d.latchRefund m).records.occupancy = d.records.occupancy := rfl
@[simp] theorem Draft.latchRefund_cards (m : Nat) :
    (d.latchRefund m).records.cards = d.records.cards := rfl
@[simp] theorem Draft.latchRefund_holds (m : Nat) :
    (d.latchRefund m).records.holds = d.records.holds := rfl
@[simp] theorem Draft.latchRefund_holdIdCounter (m : Nat) :
    (d.latchRefund m).records.holdIdCounter = d.records.holdIdCounter := rfl
@[simp] theorem Draft.latchRefund_openBank (m : Nat) :
    (d.latchRefund m).records.openBank = d.records.openBank := rfl
@[simp] theorem Draft.latchRefund_closingBank (m : Nat) :
    (d.latchRefund m).records.closingBank = d.records.closingBank := rfl
@[simp] theorem Draft.latchRefund_stagedA (m : Nat) :
    (d.latchRefund m).records.stagedA = d.records.stagedA := rfl
@[simp] theorem Draft.latchRefund_stagedB (m : Nat) :
    (d.latchRefund m).records.stagedB = d.records.stagedB := rfl
@[simp] theorem Draft.latchRefund_stagedAValid (m : Nat) :
    (d.latchRefund m).records.stagedAValid = d.records.stagedAValid := rfl
@[simp] theorem Draft.latchRefund_stagedBValid (m : Nat) :
    (d.latchRefund m).records.stagedBValid = d.records.stagedBValid := rfl
@[simp] theorem Draft.latchRefund_totals (m : Nat) :
    (d.latchRefund m).records.totals = d.records.totals := rfl
@[simp] theorem Draft.latchRefund_limits (m : Nat) :
    (d.latchRefund m).records.limits = d.records.limits := rfl
@[simp] theorem Draft.latchRefund_qual (m : Nat) : (d.latchRefund m).qual = d.qual := rfl
@[simp] theorem Draft.latchRefund_dirHigh (m : Nat) : (d.latchRefund m).dirHigh = d.dirHigh := rfl
@[simp] theorem Draft.latchRefund_holdsHigh (m : Nat) : (d.latchRefund m).holdsHigh = d.holdsHigh := rfl
@[simp] theorem Draft.latchRefund_now (m : Nat) : (d.latchRefund m).now = d.now := rfl
@[simp] theorem Draft.latchRefund_clearsAlarm (m : Nat) : (d.latchRefund m).clearsAlarm = d.clearsAlarm := rfl
@[simp] theorem Draft.latchRefund_finish (m : Nat) : (d.latchRefund m).finish = d.finish := rfl

@[simp] theorem Draft.latchDeficit_directory (m : Nat) :
    (d.latchDeficit m).records.directory = d.records.directory := rfl
@[simp] theorem Draft.latchDeficit_occupancy (m : Nat) :
    (d.latchDeficit m).records.occupancy = d.records.occupancy := rfl
@[simp] theorem Draft.latchDeficit_cards (m : Nat) :
    (d.latchDeficit m).records.cards = d.records.cards := rfl
@[simp] theorem Draft.latchDeficit_holds (m : Nat) :
    (d.latchDeficit m).records.holds = d.records.holds := rfl
@[simp] theorem Draft.latchDeficit_holdIdCounter (m : Nat) :
    (d.latchDeficit m).records.holdIdCounter = d.records.holdIdCounter := rfl
@[simp] theorem Draft.latchDeficit_openBank (m : Nat) :
    (d.latchDeficit m).records.openBank = d.records.openBank := rfl
@[simp] theorem Draft.latchDeficit_closingBank (m : Nat) :
    (d.latchDeficit m).records.closingBank = d.records.closingBank := rfl
@[simp] theorem Draft.latchDeficit_stagedA (m : Nat) :
    (d.latchDeficit m).records.stagedA = d.records.stagedA := rfl
@[simp] theorem Draft.latchDeficit_stagedB (m : Nat) :
    (d.latchDeficit m).records.stagedB = d.records.stagedB := rfl
@[simp] theorem Draft.latchDeficit_stagedAValid (m : Nat) :
    (d.latchDeficit m).records.stagedAValid = d.records.stagedAValid := rfl
@[simp] theorem Draft.latchDeficit_stagedBValid (m : Nat) :
    (d.latchDeficit m).records.stagedBValid = d.records.stagedBValid := rfl
@[simp] theorem Draft.latchDeficit_totals (m : Nat) :
    (d.latchDeficit m).records.totals = d.records.totals := rfl
@[simp] theorem Draft.latchDeficit_limits (m : Nat) :
    (d.latchDeficit m).records.limits = d.records.limits := rfl
@[simp] theorem Draft.latchDeficit_qual (m : Nat) : (d.latchDeficit m).qual = d.qual := rfl
@[simp] theorem Draft.latchDeficit_dirHigh (m : Nat) : (d.latchDeficit m).dirHigh = d.dirHigh := rfl
@[simp] theorem Draft.latchDeficit_holdsHigh (m : Nat) : (d.latchDeficit m).holdsHigh = d.holdsHigh := rfl
@[simp] theorem Draft.latchDeficit_now (m : Nat) : (d.latchDeficit m).now = d.now := rfl
@[simp] theorem Draft.latchDeficit_clearsAlarm (m : Nat) : (d.latchDeficit m).clearsAlarm = d.clearsAlarm := rfl
@[simp] theorem Draft.latchDeficit_finish (m : Nat) : (d.latchDeficit m).finish = d.finish := rfl

@[simp] theorem Draft.evalDeficit_directory (m : Nat) :
    (d.evalDeficit m).records.directory = d.records.directory := by unfold Draft.evalDeficit; split <;> rfl
@[simp] theorem Draft.evalDeficit_occupancy (m : Nat) :
    (d.evalDeficit m).records.occupancy = d.records.occupancy := by unfold Draft.evalDeficit; split <;> rfl
@[simp] theorem Draft.evalDeficit_cards (m : Nat) :
    (d.evalDeficit m).records.cards = d.records.cards := by unfold Draft.evalDeficit; split <;> rfl
@[simp] theorem Draft.evalDeficit_holds (m : Nat) :
    (d.evalDeficit m).records.holds = d.records.holds := by unfold Draft.evalDeficit; split <;> rfl
@[simp] theorem Draft.evalDeficit_holdIdCounter (m : Nat) :
    (d.evalDeficit m).records.holdIdCounter = d.records.holdIdCounter := by unfold Draft.evalDeficit; split <;> rfl
@[simp] theorem Draft.evalDeficit_openBank (m : Nat) :
    (d.evalDeficit m).records.openBank = d.records.openBank := by unfold Draft.evalDeficit; split <;> rfl
@[simp] theorem Draft.evalDeficit_closingBank (m : Nat) :
    (d.evalDeficit m).records.closingBank = d.records.closingBank := by unfold Draft.evalDeficit; split <;> rfl
@[simp] theorem Draft.evalDeficit_stagedA (m : Nat) :
    (d.evalDeficit m).records.stagedA = d.records.stagedA := by unfold Draft.evalDeficit; split <;> rfl
@[simp] theorem Draft.evalDeficit_stagedB (m : Nat) :
    (d.evalDeficit m).records.stagedB = d.records.stagedB := by unfold Draft.evalDeficit; split <;> rfl
@[simp] theorem Draft.evalDeficit_stagedAValid (m : Nat) :
    (d.evalDeficit m).records.stagedAValid = d.records.stagedAValid := by unfold Draft.evalDeficit; split <;> rfl
@[simp] theorem Draft.evalDeficit_stagedBValid (m : Nat) :
    (d.evalDeficit m).records.stagedBValid = d.records.stagedBValid := by unfold Draft.evalDeficit; split <;> rfl
@[simp] theorem Draft.evalDeficit_totals (m : Nat) :
    (d.evalDeficit m).records.totals = d.records.totals := by unfold Draft.evalDeficit; split <;> rfl
@[simp] theorem Draft.evalDeficit_limits (m : Nat) :
    (d.evalDeficit m).records.limits = d.records.limits := by unfold Draft.evalDeficit; split <;> rfl
@[simp] theorem Draft.evalDeficit_qual (m : Nat) : (d.evalDeficit m).qual = d.qual := by unfold Draft.evalDeficit; split <;> rfl
@[simp] theorem Draft.evalDeficit_dirHigh (m : Nat) : (d.evalDeficit m).dirHigh = d.dirHigh := by unfold Draft.evalDeficit; split <;> rfl
@[simp] theorem Draft.evalDeficit_holdsHigh (m : Nat) : (d.evalDeficit m).holdsHigh = d.holdsHigh := by unfold Draft.evalDeficit; split <;> rfl
@[simp] theorem Draft.evalDeficit_now (m : Nat) : (d.evalDeficit m).now = d.now := by unfold Draft.evalDeficit; split <;> rfl
@[simp] theorem Draft.evalDeficit_clearsAlarm (m : Nat) : (d.evalDeficit m).clearsAlarm = d.clearsAlarm := by unfold Draft.evalDeficit; split <;> rfl
@[simp] theorem Draft.evalDeficit_finish (m : Nat) : (d.evalDeficit m).finish = d.finish := by unfold Draft.evalDeficit; split <;> rfl

@[simp] theorem Draft.evalRefund_directory (m : Nat) :
    (d.evalRefund m).records.directory = d.records.directory := by
  unfold Draft.evalRefund; (repeat' split) <;> rfl
@[simp] theorem Draft.evalRefund_occupancy (m : Nat) :
    (d.evalRefund m).records.occupancy = d.records.occupancy := by
  unfold Draft.evalRefund; (repeat' split) <;> rfl
@[simp] theorem Draft.evalRefund_cards (m : Nat) :
    (d.evalRefund m).records.cards = d.records.cards := by
  unfold Draft.evalRefund; (repeat' split) <;> rfl
@[simp] theorem Draft.evalRefund_holds (m : Nat) :
    (d.evalRefund m).records.holds = d.records.holds := by
  unfold Draft.evalRefund; (repeat' split) <;> rfl
@[simp] theorem Draft.evalRefund_holdIdCounter (m : Nat) :
    (d.evalRefund m).records.holdIdCounter = d.records.holdIdCounter := by
  unfold Draft.evalRefund; (repeat' split) <;> rfl
@[simp] theorem Draft.evalRefund_openBank (m : Nat) :
    (d.evalRefund m).records.openBank = d.records.openBank := by
  unfold Draft.evalRefund; (repeat' split) <;> rfl
@[simp] theorem Draft.evalRefund_closingBank (m : Nat) :
    (d.evalRefund m).records.closingBank = d.records.closingBank := by
  unfold Draft.evalRefund; (repeat' split) <;> rfl
@[simp] theorem Draft.evalRefund_stagedA (m : Nat) :
    (d.evalRefund m).records.stagedA = d.records.stagedA := by
  unfold Draft.evalRefund; (repeat' split) <;> rfl
@[simp] theorem Draft.evalRefund_stagedB (m : Nat) :
    (d.evalRefund m).records.stagedB = d.records.stagedB := by
  unfold Draft.evalRefund; (repeat' split) <;> rfl
@[simp] theorem Draft.evalRefund_stagedAValid (m : Nat) :
    (d.evalRefund m).records.stagedAValid = d.records.stagedAValid := by
  unfold Draft.evalRefund; (repeat' split) <;> rfl
@[simp] theorem Draft.evalRefund_stagedBValid (m : Nat) :
    (d.evalRefund m).records.stagedBValid = d.records.stagedBValid := by
  unfold Draft.evalRefund; (repeat' split) <;> rfl
@[simp] theorem Draft.evalRefund_totals (m : Nat) :
    (d.evalRefund m).records.totals = d.records.totals := by
  unfold Draft.evalRefund; (repeat' split) <;> rfl
@[simp] theorem Draft.evalRefund_limits (m : Nat) :
    (d.evalRefund m).records.limits = d.records.limits := by
  unfold Draft.evalRefund; (repeat' split) <;> rfl
@[simp] theorem Draft.evalRefund_dirHigh (m : Nat) : (d.evalRefund m).dirHigh = d.dirHigh := by
  unfold Draft.evalRefund; (repeat' split) <;> rfl
@[simp] theorem Draft.evalRefund_holdsHigh (m : Nat) : (d.evalRefund m).holdsHigh = d.holdsHigh := by
  unfold Draft.evalRefund; (repeat' split) <;> rfl
@[simp] theorem Draft.evalRefund_now (m : Nat) : (d.evalRefund m).now = d.now := by
  unfold Draft.evalRefund; (repeat' split) <;> rfl
@[simp] theorem Draft.evalRefund_clearsAlarm (m : Nat) : (d.evalRefund m).clearsAlarm = d.clearsAlarm := by
  unfold Draft.evalRefund; (repeat' split) <;> rfl
@[simp] theorem Draft.evalRefund_finish (m : Nat) : (d.evalRefund m).finish = d.finish := by
  unfold Draft.evalRefund; (repeat' split) <;> rfl

@[simp] theorem Draft.evalMerchant_directory (m : Nat) :
    (d.evalMerchant m).records.directory = d.records.directory := by simp [Draft.evalMerchant]
@[simp] theorem Draft.evalMerchant_occupancy (m : Nat) :
    (d.evalMerchant m).records.occupancy = d.records.occupancy := by simp [Draft.evalMerchant]
@[simp] theorem Draft.evalMerchant_cards (m : Nat) :
    (d.evalMerchant m).records.cards = d.records.cards := by simp [Draft.evalMerchant]
@[simp] theorem Draft.evalMerchant_holds (m : Nat) :
    (d.evalMerchant m).records.holds = d.records.holds := by simp [Draft.evalMerchant]
@[simp] theorem Draft.evalMerchant_holdIdCounter (m : Nat) :
    (d.evalMerchant m).records.holdIdCounter = d.records.holdIdCounter := by simp [Draft.evalMerchant]
@[simp] theorem Draft.evalMerchant_openBank (m : Nat) :
    (d.evalMerchant m).records.openBank = d.records.openBank := by simp [Draft.evalMerchant]
@[simp] theorem Draft.evalMerchant_closingBank (m : Nat) :
    (d.evalMerchant m).records.closingBank = d.records.closingBank := by simp [Draft.evalMerchant]
@[simp] theorem Draft.evalMerchant_stagedA (m : Nat) :
    (d.evalMerchant m).records.stagedA = d.records.stagedA := by simp [Draft.evalMerchant]
@[simp] theorem Draft.evalMerchant_stagedB (m : Nat) :
    (d.evalMerchant m).records.stagedB = d.records.stagedB := by simp [Draft.evalMerchant]
@[simp] theorem Draft.evalMerchant_stagedAValid (m : Nat) :
    (d.evalMerchant m).records.stagedAValid = d.records.stagedAValid := by simp [Draft.evalMerchant]
@[simp] theorem Draft.evalMerchant_stagedBValid (m : Nat) :
    (d.evalMerchant m).records.stagedBValid = d.records.stagedBValid := by simp [Draft.evalMerchant]
@[simp] theorem Draft.evalMerchant_totals (m : Nat) :
    (d.evalMerchant m).records.totals = d.records.totals := by simp [Draft.evalMerchant]
@[simp] theorem Draft.evalMerchant_limits (m : Nat) :
    (d.evalMerchant m).records.limits = d.records.limits := by simp [Draft.evalMerchant]
@[simp] theorem Draft.evalMerchant_dirHigh (m : Nat) : (d.evalMerchant m).dirHigh = d.dirHigh := by simp [Draft.evalMerchant]
@[simp] theorem Draft.evalMerchant_holdsHigh (m : Nat) : (d.evalMerchant m).holdsHigh = d.holdsHigh := by simp [Draft.evalMerchant]
@[simp] theorem Draft.evalMerchant_now (m : Nat) : (d.evalMerchant m).now = d.now := by simp [Draft.evalMerchant]
@[simp] theorem Draft.evalMerchant_clearsAlarm (m : Nat) : (d.evalMerchant m).clearsAlarm = d.clearsAlarm := by simp [Draft.evalMerchant]
@[simp] theorem Draft.evalMerchant_finish (m : Nat) : (d.evalMerchant m).finish = d.finish := by simp [Draft.evalMerchant]

@[simp] theorem Draft.evalFinalised_directory (r : RetireReason) :
    (d.evalFinalised r).records.directory = d.records.directory := by cases r <;> simp [Draft.evalFinalised]
@[simp] theorem Draft.evalFinalised_occupancy (r : RetireReason) :
    (d.evalFinalised r).records.occupancy = d.records.occupancy := by cases r <;> simp [Draft.evalFinalised]
@[simp] theorem Draft.evalFinalised_cards (r : RetireReason) :
    (d.evalFinalised r).records.cards = d.records.cards := by cases r <;> simp [Draft.evalFinalised]
@[simp] theorem Draft.evalFinalised_holds (r : RetireReason) :
    (d.evalFinalised r).records.holds = d.records.holds := by cases r <;> simp [Draft.evalFinalised]
@[simp] theorem Draft.evalFinalised_holdIdCounter (r : RetireReason) :
    (d.evalFinalised r).records.holdIdCounter = d.records.holdIdCounter := by cases r <;> simp [Draft.evalFinalised]
@[simp] theorem Draft.evalFinalised_openBank (r : RetireReason) :
    (d.evalFinalised r).records.openBank = d.records.openBank := by cases r <;> simp [Draft.evalFinalised]
@[simp] theorem Draft.evalFinalised_closingBank (r : RetireReason) :
    (d.evalFinalised r).records.closingBank = d.records.closingBank := by cases r <;> simp [Draft.evalFinalised]
@[simp] theorem Draft.evalFinalised_stagedA (r : RetireReason) :
    (d.evalFinalised r).records.stagedA = d.records.stagedA := by cases r <;> simp [Draft.evalFinalised]
@[simp] theorem Draft.evalFinalised_stagedB (r : RetireReason) :
    (d.evalFinalised r).records.stagedB = d.records.stagedB := by cases r <;> simp [Draft.evalFinalised]
@[simp] theorem Draft.evalFinalised_stagedAValid (r : RetireReason) :
    (d.evalFinalised r).records.stagedAValid = d.records.stagedAValid := by cases r <;> simp [Draft.evalFinalised]
@[simp] theorem Draft.evalFinalised_stagedBValid (r : RetireReason) :
    (d.evalFinalised r).records.stagedBValid = d.records.stagedBValid := by cases r <;> simp [Draft.evalFinalised]
@[simp] theorem Draft.evalFinalised_totals (r : RetireReason) :
    (d.evalFinalised r).records.totals = d.records.totals := by cases r <;> simp [Draft.evalFinalised]
@[simp] theorem Draft.evalFinalised_limits (r : RetireReason) :
    (d.evalFinalised r).records.limits = d.records.limits := by cases r <;> simp [Draft.evalFinalised]
@[simp] theorem Draft.evalFinalised_dirHigh (r : RetireReason) : (d.evalFinalised r).dirHigh = d.dirHigh := by cases r <;> simp [Draft.evalFinalised]
@[simp] theorem Draft.evalFinalised_holdsHigh (r : RetireReason) : (d.evalFinalised r).holdsHigh = d.holdsHigh := by cases r <;> simp [Draft.evalFinalised]
@[simp] theorem Draft.evalFinalised_now (r : RetireReason) : (d.evalFinalised r).now = d.now := by cases r <;> simp [Draft.evalFinalised]
@[simp] theorem Draft.evalFinalised_clearsAlarm (r : RetireReason) : (d.evalFinalised r).clearsAlarm = d.clearsAlarm := by cases r <;> simp [Draft.evalFinalised]
@[simp] theorem Draft.evalFinalised_finish (r : RetireReason) : (d.evalFinalised r).finish = d.finish := by cases r <;> simp [Draft.evalFinalised]

@[simp] theorem Draft.evalSettled_directory (c : Card) :
    (d.evalSettled c).records.directory = d.records.directory := by
  unfold Draft.evalSettled; split <;> simp
@[simp] theorem Draft.evalSettled_occupancy (c : Card) :
    (d.evalSettled c).records.occupancy = d.records.occupancy := by
  unfold Draft.evalSettled; split <;> simp
@[simp] theorem Draft.evalSettled_cards (c : Card) :
    (d.evalSettled c).records.cards = d.records.cards := by
  unfold Draft.evalSettled; split <;> simp
@[simp] theorem Draft.evalSettled_holds (c : Card) :
    (d.evalSettled c).records.holds = d.records.holds := by
  unfold Draft.evalSettled; split <;> simp
@[simp] theorem Draft.evalSettled_holdIdCounter (c : Card) :
    (d.evalSettled c).records.holdIdCounter = d.records.holdIdCounter := by
  unfold Draft.evalSettled; split <;> simp
@[simp] theorem Draft.evalSettled_openBank (c : Card) :
    (d.evalSettled c).records.openBank = d.records.openBank := by
  unfold Draft.evalSettled; split <;> simp
@[simp] theorem Draft.evalSettled_closingBank (c : Card) :
    (d.evalSettled c).records.closingBank = d.records.closingBank := by
  unfold Draft.evalSettled; split <;> simp
@[simp] theorem Draft.evalSettled_stagedA (c : Card) :
    (d.evalSettled c).records.stagedA = d.records.stagedA := by
  unfold Draft.evalSettled; split <;> simp
@[simp] theorem Draft.evalSettled_stagedB (c : Card) :
    (d.evalSettled c).records.stagedB = d.records.stagedB := by
  unfold Draft.evalSettled; split <;> simp
@[simp] theorem Draft.evalSettled_stagedAValid (c : Card) :
    (d.evalSettled c).records.stagedAValid = d.records.stagedAValid := by
  unfold Draft.evalSettled; split <;> simp
@[simp] theorem Draft.evalSettled_stagedBValid (c : Card) :
    (d.evalSettled c).records.stagedBValid = d.records.stagedBValid := by
  unfold Draft.evalSettled; split <;> simp
@[simp] theorem Draft.evalSettled_totals (c : Card) :
    (d.evalSettled c).records.totals = d.records.totals := by
  unfold Draft.evalSettled; split <;> simp
@[simp] theorem Draft.evalSettled_limits (c : Card) :
    (d.evalSettled c).records.limits = d.records.limits := by
  unfold Draft.evalSettled; split <;> simp
@[simp] theorem Draft.evalSettled_dirHigh (c : Card) : (d.evalSettled c).dirHigh = d.dirHigh := by
  unfold Draft.evalSettled; split <;> simp
@[simp] theorem Draft.evalSettled_holdsHigh (c : Card) : (d.evalSettled c).holdsHigh = d.holdsHigh := by
  unfold Draft.evalSettled; split <;> simp
@[simp] theorem Draft.evalSettled_now (c : Card) : (d.evalSettled c).now = d.now := by
  unfold Draft.evalSettled; split <;> simp
@[simp] theorem Draft.evalSettled_clearsAlarm (c : Card) : (d.evalSettled c).clearsAlarm = d.clearsAlarm := by
  unfold Draft.evalSettled; split <;> simp
@[simp] theorem Draft.evalSettled_finish (c : Card) : (d.evalSettled c).finish = d.finish := by
  unfold Draft.evalSettled; split <;> simp

@[simp] theorem Draft.finalise_directory (j : Nat) (c : Card) (r : RetireReason) :
    (d.finalise j c r).records.directory = d.records.directory := by
  cases r <;> simp [Draft.finalise]
@[simp] theorem Draft.finalise_occupancy (j : Nat) (c : Card) (r : RetireReason) :
    (d.finalise j c r).records.occupancy = d.records.occupancy := by
  cases r <;> simp [Draft.finalise]
@[simp] theorem Draft.finalise_holds (j : Nat) (c : Card) (r : RetireReason) :
    (d.finalise j c r).records.holds = d.records.holds := by
  cases r <;> simp [Draft.finalise]
@[simp] theorem Draft.finalise_holdIdCounter (j : Nat) (c : Card) (r : RetireReason) :
    (d.finalise j c r).records.holdIdCounter = d.records.holdIdCounter := by
  cases r <;> simp [Draft.finalise]
@[simp] theorem Draft.finalise_closingBank (j : Nat) (c : Card) (r : RetireReason) :
    (d.finalise j c r).records.closingBank = d.records.closingBank := by
  cases r <;> simp [Draft.finalise]
@[simp] theorem Draft.finalise_stagedA (j : Nat) (c : Card) (r : RetireReason) :
    (d.finalise j c r).records.stagedA = d.records.stagedA := by
  cases r <;> simp [Draft.finalise]
@[simp] theorem Draft.finalise_stagedB (j : Nat) (c : Card) (r : RetireReason) :
    (d.finalise j c r).records.stagedB = d.records.stagedB := by
  cases r <;> simp [Draft.finalise]
@[simp] theorem Draft.finalise_stagedAValid (j : Nat) (c : Card) (r : RetireReason) :
    (d.finalise j c r).records.stagedAValid = d.records.stagedAValid := by
  cases r <;> simp [Draft.finalise]
@[simp] theorem Draft.finalise_stagedBValid (j : Nat) (c : Card) (r : RetireReason) :
    (d.finalise j c r).records.stagedBValid = d.records.stagedBValid := by
  cases r <;> simp [Draft.finalise]
@[simp] theorem Draft.finalise_limits (j : Nat) (c : Card) (r : RetireReason) :
    (d.finalise j c r).records.limits = d.records.limits := by
  cases r <;> simp [Draft.finalise]
@[simp] theorem Draft.finalise_merchants (j : Nat) (c : Card) (r : RetireReason) :
    (d.finalise j c r).records.merchants = d.records.merchants := by
  cases r <;> simp [Draft.finalise]
@[simp] theorem Draft.finalise_qual (j : Nat) (c : Card) (r : RetireReason) : (d.finalise j c r).qual = d.qual := by
  cases r <;> simp [Draft.finalise]
@[simp] theorem Draft.finalise_events (j : Nat) (c : Card) (r : RetireReason) : (d.finalise j c r).events = d.events := by
  cases r <;> simp [Draft.finalise]
@[simp] theorem Draft.finalise_dirHigh (j : Nat) (c : Card) (r : RetireReason) : (d.finalise j c r).dirHigh = d.dirHigh := by
  cases r <;> simp [Draft.finalise]
@[simp] theorem Draft.finalise_holdsHigh (j : Nat) (c : Card) (r : RetireReason) : (d.finalise j c r).holdsHigh = d.holdsHigh := by
  cases r <;> simp [Draft.finalise]
@[simp] theorem Draft.finalise_now (j : Nat) (c : Card) (r : RetireReason) : (d.finalise j c r).now = d.now := by
  cases r <;> simp [Draft.finalise]
@[simp] theorem Draft.finalise_clearsAlarm (j : Nat) (c : Card) (r : RetireReason) : (d.finalise j c r).clearsAlarm = d.clearsAlarm := by
  cases r <;> simp [Draft.finalise]
@[simp] theorem Draft.finalise_finish (j : Nat) (c : Card) (r : RetireReason) : (d.finalise j c r).finish = d.finish := by
  cases r <;> simp [Draft.finalise]

@[simp] theorem Draft.settleCard_directory (j : Nat) (c : Card) :
    (d.settleCard j c).records.directory = d.records.directory := by
  unfold Draft.settleCard; split <;> simp
@[simp] theorem Draft.settleCard_occupancy (j : Nat) (c : Card) :
    (d.settleCard j c).records.occupancy = d.records.occupancy := by
  unfold Draft.settleCard; split <;> simp
@[simp] theorem Draft.settleCard_holds (j : Nat) (c : Card) :
    (d.settleCard j c).records.holds = d.records.holds := by
  unfold Draft.settleCard; split <;> simp
@[simp] theorem Draft.settleCard_holdIdCounter (j : Nat) (c : Card) :
    (d.settleCard j c).records.holdIdCounter = d.records.holdIdCounter := by
  unfold Draft.settleCard; split <;> simp
@[simp] theorem Draft.settleCard_closingBank (j : Nat) (c : Card) :
    (d.settleCard j c).records.closingBank = d.records.closingBank := by
  unfold Draft.settleCard; split <;> simp
@[simp] theorem Draft.settleCard_stagedA (j : Nat) (c : Card) :
    (d.settleCard j c).records.stagedA = d.records.stagedA := by
  unfold Draft.settleCard; split <;> simp
@[simp] theorem Draft.settleCard_stagedB (j : Nat) (c : Card) :
    (d.settleCard j c).records.stagedB = d.records.stagedB := by
  unfold Draft.settleCard; split <;> simp
@[simp] theorem Draft.settleCard_stagedAValid (j : Nat) (c : Card) :
    (d.settleCard j c).records.stagedAValid = d.records.stagedAValid := by
  unfold Draft.settleCard; split <;> simp
@[simp] theorem Draft.settleCard_stagedBValid (j : Nat) (c : Card) :
    (d.settleCard j c).records.stagedBValid = d.records.stagedBValid := by
  unfold Draft.settleCard; split <;> simp
@[simp] theorem Draft.settleCard_limits (j : Nat) (c : Card) :
    (d.settleCard j c).records.limits = d.records.limits := by
  unfold Draft.settleCard; split <;> simp
@[simp] theorem Draft.settleCard_merchants (j : Nat) (c : Card) :
    (d.settleCard j c).records.merchants = d.records.merchants := by
  unfold Draft.settleCard; split <;> simp
@[simp] theorem Draft.settleCard_qual (j : Nat) (c : Card) : (d.settleCard j c).qual = d.qual := by
  unfold Draft.settleCard; split <;> simp
@[simp] theorem Draft.settleCard_events (j : Nat) (c : Card) : (d.settleCard j c).events = d.events := by
  unfold Draft.settleCard; split <;> simp
@[simp] theorem Draft.settleCard_dirHigh (j : Nat) (c : Card) : (d.settleCard j c).dirHigh = d.dirHigh := by
  unfold Draft.settleCard; split <;> simp
@[simp] theorem Draft.settleCard_holdsHigh (j : Nat) (c : Card) : (d.settleCard j c).holdsHigh = d.holdsHigh := by
  unfold Draft.settleCard; split <;> simp
@[simp] theorem Draft.settleCard_now (j : Nat) (c : Card) : (d.settleCard j c).now = d.now := by
  unfold Draft.settleCard; split <;> simp
@[simp] theorem Draft.settleCard_clearsAlarm (j : Nat) (c : Card) : (d.settleCard j c).clearsAlarm = d.clearsAlarm := by
  unfold Draft.settleCard; split <;> simp
@[simp] theorem Draft.settleCard_finish (j : Nat) (c : Card) : (d.settleCard j c).finish = d.finish := by
  unfold Draft.settleCard; split <;> simp

@[simp] theorem Draft.takeValue_directory (m : Nat) (x : Nat) :
    (d.takeValue m x).records.directory = d.records.directory := by
  simp [Draft.takeValue]
@[simp] theorem Draft.takeValue_occupancy (m : Nat) (x : Nat) :
    (d.takeValue m x).records.occupancy = d.records.occupancy := by
  simp [Draft.takeValue]
@[simp] theorem Draft.takeValue_cards (m : Nat) (x : Nat) :
    (d.takeValue m x).records.cards = d.records.cards := by
  simp [Draft.takeValue]
@[simp] theorem Draft.takeValue_holds (m : Nat) (x : Nat) :
    (d.takeValue m x).records.holds = d.records.holds := by
  simp [Draft.takeValue]
@[simp] theorem Draft.takeValue_holdIdCounter (m : Nat) (x : Nat) :
    (d.takeValue m x).records.holdIdCounter = d.records.holdIdCounter := by
  simp [Draft.takeValue]
@[simp] theorem Draft.takeValue_closingBank (m : Nat) (x : Nat) :
    (d.takeValue m x).records.closingBank = d.records.closingBank := by
  simp [Draft.takeValue]
@[simp] theorem Draft.takeValue_stagedA (m : Nat) (x : Nat) :
    (d.takeValue m x).records.stagedA = d.records.stagedA := by
  simp [Draft.takeValue]
@[simp] theorem Draft.takeValue_stagedB (m : Nat) (x : Nat) :
    (d.takeValue m x).records.stagedB = d.records.stagedB := by
  simp [Draft.takeValue]
@[simp] theorem Draft.takeValue_stagedAValid (m : Nat) (x : Nat) :
    (d.takeValue m x).records.stagedAValid = d.records.stagedAValid := by
  simp [Draft.takeValue]
@[simp] theorem Draft.takeValue_stagedBValid (m : Nat) (x : Nat) :
    (d.takeValue m x).records.stagedBValid = d.records.stagedBValid := by
  simp [Draft.takeValue]
@[simp] theorem Draft.takeValue_limits (m : Nat) (x : Nat) :
    (d.takeValue m x).records.limits = d.records.limits := by
  simp [Draft.takeValue]
@[simp] theorem Draft.takeValue_merchants (m : Nat) (x : Nat) :
    (d.takeValue m x).records.merchants = d.records.merchants := by
  simp [Draft.takeValue]
@[simp] theorem Draft.takeValue_qual (m : Nat) (x : Nat) : (d.takeValue m x).qual = d.qual := by
  simp [Draft.takeValue]
@[simp] theorem Draft.takeValue_events (m : Nat) (x : Nat) : (d.takeValue m x).events = d.events := by
  simp [Draft.takeValue]
@[simp] theorem Draft.takeValue_dirHigh (m : Nat) (x : Nat) : (d.takeValue m x).dirHigh = d.dirHigh := by
  simp [Draft.takeValue]
@[simp] theorem Draft.takeValue_holdsHigh (m : Nat) (x : Nat) : (d.takeValue m x).holdsHigh = d.holdsHigh := by
  simp [Draft.takeValue]
@[simp] theorem Draft.takeValue_now (m : Nat) (x : Nat) : (d.takeValue m x).now = d.now := by
  simp [Draft.takeValue]
@[simp] theorem Draft.takeValue_clearsAlarm (m : Nat) (x : Nat) : (d.takeValue m x).clearsAlarm = d.clearsAlarm := by
  simp [Draft.takeValue]
@[simp] theorem Draft.takeValue_finish (m : Nat) (x : Nat) : (d.takeValue m x).finish = d.finish := by
  simp [Draft.takeValue]

/-! What the evaluations do -/

theorem Draft.finalise_cards (j : Nat) (c : Card) (r : RetireReason) :
    (d.finalise j c r).records.cards = tableInsert d.records.cards j (retiredCard d.now r c) := by
  cases r <;> rfl

theorem Draft.settleCard_cards (j : Nat) (c : Card) :
    (d.settleCard j c).records.cards = tableInsert d.records.cards j (settledCard d.now c) := by
  unfold Draft.settleCard settledCard
  split
  · rfl
  · rw [Draft.finalise_cards]

@[simp] theorem openEntry_evalMerchant (m k : Nat) :
    openEntry (d.evalMerchant m).records k = openEntry d.records k := by simp [openEntry]

/-- DEFICIT evaluated: it latches when live and not latched, and blocks sales when operate is on; no other merchant, and
nothing else, changes. -/
theorem Draft.evalDeficit_spec (m : Nat) :
    let x := merchantOf d.records m
    let latches := deficitLive d.records.limits.monitor (openEntry d.records m) && !x.deficitLatched
    (∀ k, merchantOf (d.evalDeficit m).records k =
      if k = m then
        { x with
          deficitLatched := x.deficitLatched || latches
          salesBlocked := x.salesBlocked || latches && inSet d.records.limits.device.operate .deficit }
      else merchantOf d.records k) ∧
    (d.evalDeficit m).events = d.events ||| (if latches then 0x40#8 else 0x00#8) := by
  simp only [Draft.evalDeficit]
  split
  · next h =>
    refine ⟨fun k => ?_, ?_⟩
    · simp only [Draft.latchDeficit, Draft.raise_records, Draft.putMerchant_records, merchantOf_put]
      split
      · next hk => simp [h]
      · rfl
    · simp [Draft.latchDeficit, eventBit]
  · next h =>
    simp only [Bool.not_eq_true] at h
    refine ⟨fun k => ?_, ?_⟩
    · split
      · next hk => subst hk; simp [h]
      · rfl
    · simp

/-- REFUND_RATIO evaluated, by the table of R152: when it latches, on a merchant neither latched nor pending with a
qualification time of 0, refunds are blocked if operate is on; no other merchant changes. -/
theorem Draft.evalRefund_spec (m : Nat) :
    let x := merchantOf d.records m
    let latches := refundLive d.records.limits.monitor (openEntry d.records m) && !x.refundLatched &&
      !isPending d.qual m && decide (d.records.limits.monitor.qualTime = 0)
    (∀ k, merchantOf (d.evalRefund m).records k =
      if k = m then
        { x with
          refundLatched := x.refundLatched || latches
          refundsBlocked := x.refundsBlocked || latches && inSet d.records.limits.device.operate .refundRatio }
      else merchantOf d.records k) ∧
    (d.evalRefund m).events = d.events ||| (if latches then 0x40#8 else 0x00#8) := by
  have same : ∀ b : Bool, b = false → ∀ k, merchantOf d.records k =
      if k = m then
        { merchantOf d.records m with
          refundLatched := (merchantOf d.records m).refundLatched || b
          refundsBlocked := (merchantOf d.records m).refundsBlocked ||
            b && inSet d.records.limits.device.operate .refundRatio }
      else merchantOf d.records k := by
    rintro _ rfl k
    split
    · next hk => subst hk; simp
    · rfl
  simp only [Draft.evalRefund]
  split
  · next h1 =>
    split
    · next h2 => exact ⟨same _ (by simp [h2]), by simp [h2]⟩
    · next h2 =>
      split
      · next h3 => exact ⟨same _ (by simp [h3]), by simp [h3]⟩
      · next h3 =>
        split
        · next h4 =>
          refine ⟨fun k => ?_, by simp [Draft.latchRefund, h1, h2, h3, h4, eventBit]⟩
          simp only [Draft.latchRefund, Draft.raise_records, Draft.putMerchant_records, merchantOf_put]
          split
          · next hk => simp [h1, h2, h3, h4]
          · rfl
        · next h4 => exact ⟨same _ (by simp [h4]), by simp [h4]⟩
  · next h1 => exact ⟨same _ (by simp [h1]), by simp [h1]⟩

/-- The Qualification List entries of other merchants stand. -/
theorem mem_insertQual (q : Qual) (l : List Qual) (k : Qual) : k ∈ insertQual q l ↔ k = q ∨ k ∈ l := by
  induction l with
  | nil => simp [insertQual]
  | cons p rest ih =>
    simp only [insertQual]
    split
    · simp
    · simp only [List.mem_cons, ih]; tauto

theorem mem_eraseQual (l : List Qual) (m : Nat) (k : Qual) : k ∈ eraseQual l m ↔ k ∈ l ∧ k.merchant ≠ m := by
  simp [eraseQual]

theorem Draft.evalRefund_qual_other (m : Nat) (k : Qual) (h : k.merchant ≠ m) :
    k ∈ (d.evalRefund m).qual ↔ k ∈ d.qual := by
  simp only [Draft.evalRefund]
  (repeat' split)
  · rfl
  · rfl
  · simp
  · simp only [mem_insertQual]
    constructor
    · rintro (rfl | hk)
      · exact absurd rfl h
      · exact hk
    · exact Or.inr
  · simp [mem_eraseQual, h]

theorem Draft.evalMerchant_qual_other (m : Nat) (k : Qual) (h : k.merchant ≠ m) :
    k ∈ (d.evalMerchant m).qual ↔ k ∈ d.qual := by
  simp [Draft.evalMerchant, Draft.evalRefund_qual_other _ _ _ h]

/-- An evaluation of merchant conditions moves flags and blocks of that merchant only. -/
theorem Draft.evalMerchant_merchant (m k : Nat) :
    let x := merchantOf d.records k
    let y := merchantOf (d.evalMerchant m).records k
    y.state = x.state ∧ y.settings = x.settings ∧ y.openHolds = x.openHolds ∧ y.withdrawnIn = x.withdrawnIn ∧
      (k ≠ m → y = x) := by
  have h1 := (Draft.evalDeficit_spec d m).1 k
  have h2 := (Draft.evalRefund_spec (d.evalDeficit m) m).1
  have h3 := h2 k
  simp only [Draft.evalMerchant] at *
  by_cases hk : k = m
  · subst hk; rw [h3, if_pos rfl, h1, if_pos rfl]; simp
  · rw [h3, if_neg hk, h1, if_neg hk]; simp

/-- An evaluation of merchant conditions sets CONDITION_LATCHED or nothing. -/
theorem Draft.evalMerchant_events (m : Nat) :
    (d.evalMerchant m).events = d.events ∨ (d.evalMerchant m).events = d.events ||| 0x40#8 := by
  have h1 := (Draft.evalDeficit_spec d m).2
  have h2 := (Draft.evalRefund_spec (d.evalDeficit m) m).2
  simp only [Draft.evalMerchant] at *
  rw [h2, h1]
  generalize (deficitLive d.records.limits.monitor (openEntry d.records m) &&
    !(merchantOf d.records m).deficitLatched) = a
  generalize (_ && _ && _ && _ : Bool) = b
  cases a <;> cases b <;> simp [BitVec.or_assoc]

theorem Draft.evalSettled_qual_other (c : Card) (k : Qual) (h : k.merchant ≠ 0) :
    k ∈ (d.evalSettled c).qual ↔ k ∈ d.qual := by
  unfold Draft.evalSettled
  split
  · rfl
  · next r _ => cases r <;> simp [Draft.evalFinalised, Draft.evalMerchant_qual_other _ _ _ h]

end Sys2Proof.Machine
end

