-- ==== Sys2Proof/Laws/Frames.lean ====
section
/-! SUPPORT. Frames: what a field, a byte and a whole frame read back as (R181, R182). -/

namespace Sys2Proof

theorem beNat_acc (l : List Byte) (n : Nat) : l.foldl (fun n b => 256 * n + b.toNat) n = n * 256 ^ l.length + beNat l := by
  induction l generalizing n with
  | nil => simp [beNat]
  | cons a l ih =>
    simp only [List.foldl_cons, List.length_cons, beNat]
    rw [ih, ih (256 * 0 + a.toNat)]; ring

theorem beBytes_length (w n : Nat) : (beBytes w n).length = w := by
  induction w with
  | zero => rfl
  | succ w ih => simp [beBytes, ih]

theorem beNat_beBytes_mod (w n : Nat) : beNat (beBytes w n) = n % 256 ^ w := by
  induction w generalizing n with
  | zero => simp [beBytes, beNat, Nat.mod_one]
  | succ w ih =>
    have : beNat (beBytes (w + 1) n) = (BitVec.ofNat 8 (n / 256 ^ w)).toNat * 256 ^ w + beNat (beBytes w n) := by
      simp only [beBytes]; show List.foldl _ (256 * 0 + _) _ = _
      rw [beNat_acc, beBytes_length]; simp
    have h := Nat.mod_mul (x := n) (a := 256 ^ w) (b := 256)
    rw [this, ih, BitVec.toNat_ofNat, Nat.pow_succ 256 w, h, Nat.add_comm, Nat.mul_comm (256 ^ w)]

/-- A field in its width carries its number. -/
theorem beNat_beBytes (w n : Nat) (h : n < 256 ^ w) : beNat (beBytes w n) = n := by
  rw [beNat_beBytes_mod, Nat.mod_eq_of_lt h]

/-- A parameter field reads the number its bytes carry. -/
theorem param_at {ps : List Byte} {at' w n : Nat} (h : (ps.drop (at' - 2)).take w = beBytes w n)
    (hn : n < 256 ^ w) : param ps at' w = n := by
  rw [param, h, beNat_beBytes _ _ hn]

theorem toBytes_byteBits (b : Byte) (rest : List Bool) : toBytes (byteBits b ++ rest) = b :: toBytes rest := by
  have : ∀ x : BitVec 8, BitVec.ofNat 8 (bitsNat [x.getLsbD 7, x.getLsbD 6, x.getLsbD 5, x.getLsbD 4, x.getLsbD 3,
      x.getLsbD 2, x.getLsbD 1, x.getLsbD 0]) = x := by decide
  simp only [byteBits, List.cons_append, List.nil_append, toBytes, this]

theorem toBytes_flatMap (l : List Byte) : toBytes (l.flatMap byteBits) = l := by
  induction l with
  | nil => rfl
  | cons a l ih => rw [List.flatMap_cons, toBytes_byteBits, ih]

theorem length_flatMap_byteBits (l : List Byte) : (l.flatMap byteBits).length = 8 * l.length := by
  induction l with
  | nil => rfl
  | cons a l ih => simp [List.flatMap_cons, ih, byteBits]; ring

theorem bitsNat_crc (c : BitVec 16) : bitsNat ((beBytes 2 c.toNat).flatMap byteBits) = c.toNat := by
  have h1 : ∀ x : BitVec 8, ∀ n, List.foldl (fun n b => 2 * n + b.toNat) n (byteBits x) = 256 * n + x.toNat := by
    intro x n
    have : ∀ x : BitVec 8, 128 * (x.getLsbD 7).toNat + 64 * (x.getLsbD 6).toNat + 32 * (x.getLsbD 5).toNat +
        16 * (x.getLsbD 4).toNat + 8 * (x.getLsbD 3).toNat + 4 * (x.getLsbD 2).toNat + 2 * (x.getLsbD 1).toNat +
        (x.getLsbD 0).toNat = x.toNat := by decide
    rw [← this]; simp only [byteBits, List.foldl]; ring
  have := beNat_beBytes 2 c.toNat (by have := c.isLt; omega)
  rw [← this]
  simp only [beBytes, List.flatMap_cons, List.flatMap_nil, List.append_nil, bitsNat, List.foldl_append, h1, beNat, List.foldl]
  have h2 : 256 * (256 * 0 + (BitVec.ofNat 8 (c.toNat / 256 ^ 1)).toNat) + (BitVec.ofNat 8 (c.toNat / 256 ^ 0)).toNat = c.toNat := this
  simp only [h2]

/-- A whole frame of thirty bytes has the right length and a good check word, and its bytes are those it was made of. -/
theorem frameBits_good (bytes : List Byte) (h : bytes.length = 30) :
    rightLength (frameBits bytes) = true ∧ goodCrc (frameBits bytes) = true ∧
      toBytes (frameBits bytes) = bytes ++ beBytes 2 (crcBytes bytes).toNat := by
  have hf : frameBits bytes = bytes.flatMap byteBits ++ (beBytes 2 (crcBytes bytes).toNat).flatMap byteBits := by simp [frameBits]
  have hl : (bytes.flatMap byteBits).length = 240 := by rw [length_flatMap_byteBits, h]
  refine ⟨?_, ?_, toBytes_flatMap _⟩
  · rw [rightLength, hf, List.length_append, hl, length_flatMap_byteBits, beBytes_length]; rfl
  · rw [goodCrc, hf, decide_eq_true_eq]
    rw [List.take_append_of_le_length (by omega), List.take_of_length_le (by omega)]
    rw [List.drop_append_of_le_length (by omega), List.drop_of_length_le (by omega), List.nil_append, bitsNat_crc]; rfl

end Sys2Proof
end

