-- ==== Sys2Proof/Laws/Port.lean ====
section
/-! SUPPORT. What serving reads and answering slots can do: they move the clock, the close alarm, the waiting expiry request
and the raw events, and slots of the Link Port, and nothing else (R83, R86, R92, R93, R187). -/

namespace Sys2Proof.Machine

/-- Everything that serving reads and answering slots can do to a state. -/
structure Settled (s t : State) : Prop where
  records : t.records = s.records
  qual : t.qual = s.qual
  dirHigh : t.dirHigh = s.dirHigh
  holdsHigh : t.holdsHigh = s.holdsHigh
  supplyLow : t.supplyLow = s.supplyLow
  supply : t.supply = s.supply
  guard : t.guard = s.guard
  reading : t.reading = s.reading
  vhold : t.vhold = s.vhold
  powered : t.powered = s.powered
  nResetLow : t.nResetLow = s.nResetLow
  nSelLow : t.nSelLow = s.nSelLow
  lastKind : t.lastKind = s.lastKind
  clockNeededHeld : t.clockNeededHeld = s.clockNeededHeld
  pending : t.pending = s.pending
  posting : t.posting = s.posting ∨ t.posting = s.posting.map (fun p => { p with alarmFired := true })
  clock : t.clock = s.clock ∨ t.clock.state = .set ∧ s.records.totals.floor ≤ t.clock.value ∧
    (s.clock.state = .set → s.clock.value ≤ t.clock.value)
  portRest : t.port =
    { s.port with accepted := t.port.accepted, delivery := t.port.delivery }
  accepted : t.port.accepted.Sublist s.port.accepted
  delivery : ∃ rest, t.port.delivery = s.port.delivery ++ rest

theorem Settled.refl (s : State) : Settled s s where
  records := rfl
  qual := rfl
  dirHigh := rfl
  holdsHigh := rfl
  supplyLow := rfl
  supply := rfl
  guard := rfl
  reading := rfl
  vhold := rfl
  powered := rfl
  nResetLow := rfl
  nSelLow := rfl
  lastKind := rfl
  clockNeededHeld := rfl
  pending := rfl
  posting := .inl rfl
  clock := .inl rfl
  portRest := rfl
  accepted := List.Sublist.refl _
  delivery := ⟨[], by simp⟩

theorem Settled.trans {s t u : State} (h : Settled s t) (k : Settled t u) : Settled s u where
  records := k.records.trans h.records
  qual := k.qual.trans h.qual
  dirHigh := k.dirHigh.trans h.dirHigh
  holdsHigh := k.holdsHigh.trans h.holdsHigh
  supplyLow := k.supplyLow.trans h.supplyLow
  supply := k.supply.trans h.supply
  guard := k.guard.trans h.guard
  reading := k.reading.trans h.reading
  vhold := k.vhold.trans h.vhold
  powered := k.powered.trans h.powered
  nResetLow := k.nResetLow.trans h.nResetLow
  nSelLow := k.nSelLow.trans h.nSelLow
  lastKind := k.lastKind.trans h.lastKind
  clockNeededHeld := k.clockNeededHeld.trans h.clockNeededHeld
  pending := k.pending.trans h.pending
  posting := by
    rcases h.posting with h1 | h1 <;> rcases k.posting with k1 | k1 <;> rw [k1, h1]
    · exact .inl rfl
    · exact .inr rfl
    · exact .inr rfl
    · right; cases s.posting <;> rfl
  clock := by
    rcases k.clock with k1 | ⟨k1, k2, k3⟩
    · rw [k1]; exact h.clock
    · right
      refine ⟨k1, h.records ▸ k2, fun hs => ?_⟩
      rcases h.clock with h1 | ⟨h1, h2, h3⟩
      · rw [h1] at k3; exact k3 hs
      · exact Nat.le_trans (h3 hs) (k3 h1)
  portRest := by rw [k.portRest, h.portRest]
  accepted := k.accepted.trans h.accepted
  delivery := by
    obtain ⟨a, ha⟩ := h.delivery
    obtain ⟨b, hb⟩ := k.delivery
    exact ⟨a ++ b, by rw [hb, ha, List.append_assoc]⟩

theorem Settled.isSome_posting {s t : State} (h : Settled s t) : t.posting.isSome = s.posting.isSome := by
  rcases h.posting with h | h <;> rw [h]
  cases s.posting <;> rfl

theorem Settled.inFlight {s t : State} (h : Settled s t) (q : Slot) : inFlight t q = inFlight s q := by
  unfold Sys2Proof.Machine.inFlight
  rcases h.posting with h | h <;> rw [h]
  cases s.posting <;> rfl

theorem Settled.running {s t : State} (h : Settled s t) : running t = running s := by
  unfold Sys2Proof.Machine.running; rw [h.powered, h.nResetLow]

/-! The pieces -/

theorem answerSlot_settled (s : State) (q : Slot) (a : Answer) : Settled s (answerSlot s q a) :=
  { Settled.refl s with
    portRest := rfl
    accepted := List.filter_sublist
    delivery := ⟨_, rfl⟩ }

theorem expiryTest_cases (s : State) : expiryTest s = s ∨ ∃ id, expiryTest s = { s with expiryWaiting := some id } := by
  unfold expiryTest
  (repeat' split)
  · exact .inl rfl
  · exact .inr ⟨_, rfl⟩
  · exact .inl rfl
  · exact .inl rfl

/-- The Expiry Unit's test moves the waiting request and nothing else: while the device runs with the clock SET and no
request waits, a due head becomes the request (R68). -/
theorem expiryTest_eq (s : State) : expiryTest s =
    { s with expiryWaiting :=
      if running s = true ∧ s.clock.state = .set ∧ s.expiryWaiting = none then
        (s.records.holds.head?.filter (fun h => decide (h.deadline ≤ s.clock.value))).map Hold.id
      else s.expiryWaiting } := by
  unfold expiryTest
  by_cases h : running s = true ∧ s.clock.state = .set ∧ s.expiryWaiting = none
  · rw [if_pos (by simp [h]), if_pos h]
    cases hh : s.records.holds.head? with
    | none => simp [← h.2.2]
    | some x =>
      by_cases hx : x.deadline ≤ s.clock.value
      · simp [hx, Option.filter]
      · simp [hx, Option.filter, ← h.2.2]
  · rw [if_neg (by simpa [and_assoc] using h), if_neg h]

theorem expiryTest_settled (s : State) : Settled s (expiryTest s) := by
  rcases expiryTest_cases s with h | ⟨id, h⟩ <;> rw [h]
  · exact Settled.refl s
  · exact { Settled.refl s with }

theorem expiryTest_port (s : State) : (expiryTest s).port = s.port := by
  rcases expiryTest_cases s with h | ⟨id, h⟩ <;> rw [h]

theorem expiryTest_clock (s : State) : (expiryTest s).clock = s.clock := by
  rcases expiryTest_cases s with h | ⟨id, h⟩ <;> rw [h]

theorem alarmTest_settled (s : State) (t t' : Nat) : Settled s (alarmTest s t t') := by
  unfold alarmTest
  split
  · exact { Settled.refl s with posting := .inr rfl }
  · exact Settled.refl s

theorem alarmTest_port (s : State) (t t' : Nat) : (alarmTest s t t').port = s.port := by
  unfold alarmTest; split <;> rfl

theorem alarmTest_clock (s : State) (t t' : Nat) : (alarmTest s t t').clock = s.clock := by
  unfold alarmTest; split <;> rfl

/-- An advance of a SET clock to a value at or past its own and the floor. -/
theorem advance_settled (s : State) (v : Nat) (hs : s.clock.state = .set) (h : s.clock.value ≤ v)
    (hf : s.records.totals.floor ≤ v) : Settled s (advance s v) := by
  unfold advance
  refine Settled.trans (t := setValue s v) ?_ ((alarmTest_settled _ _ _).trans (expiryTest_settled _))
  exact { Settled.refl s with clock := .inr ⟨hs, hf, fun _ => h⟩ }

theorem advance_port (s : State) (v : Nat) : (advance s v).port = s.port := by
  unfold advance; rw [expiryTest_port, alarmTest_port]; rfl

theorem advance_clock (s : State) (v : Nat) : (advance s v).clock = { s.clock with value := v } := by
  unfold advance; rw [expiryTest_clock, alarmTest_clock]; rfl

/-- A set that is not behind leaves the clock SET at its value, with the divider running (R10). -/
theorem takeSet_clock (s : State) (v : Nat) :
    (takeSet s v).clock = { state := .set, value := v, dividerRunning := true } := by
  unfold takeSet
  split
  · rw [expiryTest_clock]
  · next hs =>
    split
    · next h => simp [hs, h]
    · rw [advance_clock]; simp [hs]

theorem takeSet_port (s : State) (v : Nat) : (takeSet s v).port = s.port := by
  unfold takeSet
  split
  · rw [expiryTest_port]
  · split
    · rfl
    · rw [advance_port]

theorem takeSet_settled (s : State) (v : Nat) (h : isBehind s v = false) : Settled s (takeSet s v) := by
  simp only [isBehind, Bool.or_eq_false_iff, decide_eq_false_iff_not, Nat.not_lt, Bool.and_eq_false_imp,
    decide_eq_true_eq] at h
  unfold takeSet
  split
  · next hs =>
    refine Settled.trans ?_ (expiryTest_settled _)
    exact { Settled.refl s with clock := .inr ⟨rfl, h.1, fun h1 => by rw [hs] at h1; cases h1⟩ }
  · next hs =>
    split
    · next hv =>
      exact { Settled.refl s with clock := .inr ⟨hs, hv ▸ h.1, fun _ => Nat.le_refl _⟩ }
    · unfold advance
      refine Settled.trans ?_ ((alarmTest_settled _ _ _).trans (expiryTest_settled _))
      exact { Settled.refl s with clock := .inr ⟨hs, h.1, fun h1 => h.2 h1⟩ }

/-! Serving one read -/

theorem isRead_iff_serve (i : Instr) (s : State) : isRead i = (serve i s).isSome := by cases i <;> rfl

/-- Serving a read touches no slot, and of the rest only what a clock set or a clear of raw events touches. -/
theorem serve_settled {i : Instr} {s t : State} {a : Answer} (h : serve i s = some (t, a)) :
    Settled s t ∧ t.port = s.port := by
  cases i <;> simp only [serve, Option.some.injEq, Prod.mk.injEq, reduceCtorEq] at h
  all_goals first
    | (obtain ⟨rfl, -⟩ := h; exact ⟨Settled.refl _, rfl⟩)
    | skip
  · simp only [serveEventsClear, Prod.mk.injEq] at h
    obtain ⟨rfl, -⟩ := h
    exact ⟨{ Settled.refl s with }, rfl⟩
  · simp only [serveClockSet] at h
    split at h
    · obtain ⟨rfl, -⟩ := Prod.mk.inj h
      exact ⟨Settled.refl _, rfl⟩
    · next v hb =>
      obtain ⟨rfl, -⟩ := Prod.mk.inj h
      exact ⟨takeSet_settled _ _ (by simpa using hb), takeSet_port _ _⟩

/-! Settling -/

/-- One slot of a settling: nothing, or that slot answered after what serving it did. -/
theorem settleOne_cases (s : State) (q : Slot) :
    settleOne s q = s ∨ ∃ s1 a, Settled s s1 ∧ s1.port = s.port ∧ settleOne s q = answerSlot s1 q a := by
  unfold settleOne
  split
  · exact .inl rfl
  · split
    · exact .inl rfl
    · split
      · next s1 a h => exact .inr ⟨s1, a, (serve_settled h).1, (serve_settled h).2, rfl⟩
      · split
        · exact .inl rfl
        · split
          · exact .inr ⟨s, _, Settled.refl s, rfl, rfl⟩
          · exact .inl rfl

theorem settleOne_settled (s : State) (q : Slot) : Settled s (settleOne s q) := by
  rcases settleOne_cases s q with h | ⟨s1, a, h1, -, h⟩ <;> rw [h]
  · exact Settled.refl s
  · exact h1.trans (answerSlot_settled _ _ _)

theorem foldl_settled (f : State → Slot → State) (hf : ∀ s q, Settled s (f s q)) (l : List Slot) (s : State) :
    Settled s (l.foldl f s) := by
  induction l generalizing s with
  | nil => exact Settled.refl s
  | cons q rest ih => exact (hf s q).trans (ih _)

/-- Settling serves reads and answers slots, and does nothing else. -/
theorem settle_settled (s : State) : Settled s (settle s) := foldl_settled _ settleOne_settled _ _

@[simp] theorem settle_nil (s : State) (h : s.port.accepted = []) : settle s = s := by simp [settle, h]

theorem parkOne_settled (s : State) (q : Slot) : Settled s (parkOne s q) := by
  unfold parkOne; split
  · exact answerSlot_settled _ _ _
  · exact Settled.refl s

theorem answerParked_settled (s : State) : Settled s (answerParked s) := by
  unfold answerParked
  exact (foldl_settled _ parkOne_settled _ _).trans (settle_settled _)

/-! The port's invariant -/

/-- The Link Port's slots: at most sixteen in use, no place twice, all below the next one. -/
def SlotsOk (p : LinkPort) : Prop :=
  p.accepted.length + p.delivery.length ≤ Config.nPortSlots ∧ placesRise p.nextPlace p.accepted = true ∧
  (∀ a ∈ p.delivery, a.slot.place < p.nextPlace) ∧
  (p.accepted.map Slot.place ++ p.delivery.map (fun a => a.slot.place)).Nodup

theorem placesRise_iff (b : Nat) (l : List Slot) :
    placesRise b l = true ↔ l.Pairwise (fun p q => p.place < q.place) ∧ ∀ q ∈ l, q.place < b := by
  match l with
  | [] => simp [placesRise]
  | [a] => simp [placesRise]
  | a :: c :: rest =>
    rw [placesRise, Bool.and_eq_true, decide_eq_true_eq, placesRise_iff b (c :: rest), List.pairwise_cons (a := a)]
    constructor
    · rintro ⟨h, hp, hb⟩
      have hc : ∀ x ∈ c :: rest, a.place < x.place := fun x hx => by
        rcases List.mem_cons.1 hx with rfl | hx
        · exact h
        · exact Nat.lt_trans h ((List.pairwise_cons.1 hp).1 x hx)
      refine ⟨⟨hc, hp⟩, fun q hq => ?_⟩
      rcases List.mem_cons.1 hq with rfl | hq
      · exact Nat.lt_trans h (hb c List.mem_cons_self)
      · exact hb q hq
    · rintro ⟨⟨h, hp⟩, hb⟩
      exact ⟨h c List.mem_cons_self, hp, fun q hq => hb q (List.mem_cons_of_mem _ hq)⟩

theorem portInv_iff (s : State) : portInv s = true ↔
    SlotsOk s.port ∧ (∀ p, s.port.offered = some p → s.port.delivery.head?.map (fun a => a.slot.place) = some p) ∧
    (running s = true ∨ s.port.frame = none ∧ s.port.offered = none) := by
  simp only [portInv, SlotsOk, Bool.and_eq_true, decide_eq_true_eq, List.all_eq_true, Option.all_eq_true,
    Bool.or_eq_true, Option.isNone_iff_eq_none, and_assoc]

theorem SlotsOk.accepted_nodup {p : LinkPort} (h : SlotsOk p) : (p.accepted.map Slot.place).Nodup :=
  (List.nodup_append.1 h.2.2.2).1

/-- Answering an accepted slot keeps the slots in order. -/
theorem SlotsOk.answer {s : State} {q : Slot} (a : Answer) (h : SlotsOk s.port) (hq : q ∈ s.port.accepted) :
    SlotsOk (answerSlot s q a).port := by
  obtain ⟨h1, h2, h3, h4⟩ := h
  rw [placesRise_iff] at h2
  obtain ⟨n1, n2, n3⟩ := List.nodup_append.1 h4
  simp only [answerSlot_port]
  refine ⟨?_, ?_, ?_, ?_⟩
  · have hlt : (s.port.accepted.filter (fun p => decide (p.place ≠ q.place))).length < s.port.accepted.length := by
      rw [List.length_filter_lt_length_iff_exists]
      exact ⟨q, hq, by simp⟩
    simp only [List.length_append, List.length_singleton]
    omega
  · rw [placesRise_iff]
    exact ⟨h2.1.filter _, fun x hx => h2.2 x (List.mem_of_mem_filter hx)⟩
  · intro x hx
    rcases List.mem_append.1 hx with hx | hx
    · exact h3 x hx
    · rw [List.mem_singleton.1 hx]; exact h2.2 q hq
  · rw [List.map_append, ← List.append_assoc, List.nodup_append]
    refine ⟨List.Nodup.sublist (List.Sublist.append (List.filter_sublist.map _) (List.Sublist.refl _)) h4,
      by simp, ?_⟩
    simp only [List.mem_append, List.mem_map, List.mem_filter, List.map_cons, List.map_nil, List.mem_singleton]
    rintro x (⟨y, ⟨-, hy⟩, rfl⟩ | hx) z rfl
    · simpa using hy
    · obtain ⟨y, hy, rfl⟩ := hx
      exact fun he => n3 q.place (List.mem_map_of_mem hq) y.slot.place (List.mem_map_of_mem hy) he.symm

theorem settleOne_accepted (s : State) (q x : Slot) (h : x ∈ s.port.accepted) (hne : x.place ≠ q.place) :
    x ∈ (settleOne s q).port.accepted := by
  rcases settleOne_cases s q with h1 | ⟨s1, a, -, hp, h1⟩ <;> rw [h1]
  · exact h
  · simp only [answerSlot_port, hp, List.mem_filter, decide_eq_true_eq]
    exact ⟨h, hne⟩

theorem SlotsOk.settleOne {s : State} {q : Slot} (h : SlotsOk s.port) (hq : q ∈ s.port.accepted) :
    SlotsOk (settleOne s q).port := by
  rcases settleOne_cases s q with h1 | ⟨s1, a, -, hp, h1⟩ <;> rw [h1]
  · exact h
  · exact SlotsOk.answer a (hp ▸ h) (hp ▸ hq)

theorem SlotsOk.parkOne {s : State} {q : Slot} (h : SlotsOk s.port) (hq : q ∈ s.port.accepted) :
    SlotsOk (parkOne s q).port := by
  unfold Sys2Proof.Machine.parkOne
  split
  · exact SlotsOk.answer _ h hq
  · exact h

theorem parkOne_accepted (s : State) (q x : Slot) (h : x ∈ s.port.accepted) (hne : x.place ≠ q.place) :
    x ∈ (parkOne s q).port.accepted := by
  unfold parkOne
  split
  · simp only [answerSlot_port, List.mem_filter, decide_eq_true_eq]; exact ⟨h, hne⟩
  · exact h

/-- A pass over slots of the port, each answering at most its own slot, keeps the slots in order. -/
theorem SlotsOk.foldl (f : State → Slot → State)
    (hok : ∀ s q, SlotsOk s.port → q ∈ s.port.accepted → SlotsOk (f s q).port)
    (hmem : ∀ s (q x : Slot), x ∈ s.port.accepted → x.place ≠ q.place → x ∈ (f s q).port.accepted)
    (l : List Slot) (s : State) (hl : (l.map Slot.place).Nodup) (hsub : ∀ q ∈ l, q ∈ s.port.accepted)
    (h : SlotsOk s.port) : SlotsOk (l.foldl f s).port := by
  induction l generalizing s with
  | nil => exact h
  | cons q rest ih =>
    simp only [List.map_cons, List.nodup_cons] at hl
    refine ih (f s q) hl.2 (fun x hx => ?_) (hok s q h (hsub q List.mem_cons_self))
    refine hmem s q x (hsub x (List.mem_cons_of_mem _ hx)) (fun he => hl.1 ?_)
    rw [← he]; exact List.mem_map_of_mem hx

theorem SlotsOk.settle {s : State} (h : SlotsOk s.port) : SlotsOk (settle s).port :=
  SlotsOk.foldl _ (fun _ _ => SlotsOk.settleOne) settleOne_accepted _ _ h.accepted_nodup (fun _ => id) h

/-! The read that is served before a step -/

/-- With no eligible read still to be served, a step starts from the state as it stands. -/
@[simp] theorem readsServed_none {s : State} (h : oldestRead s = none) : readsServed s = s := by
  simp only [readsServed, h]

/-- The oldest eligible read stands in the port, and the device runs. -/
theorem oldestRead_slot {s : State} {q : Slot} (h : oldestRead s = some q) :
    q ∈ s.port.accepted ∧ running s = true := by
  unfold oldestRead at h
  split at h
  · next hr => exact ⟨List.mem_of_find?_eq_some h, hr⟩
  · cases h

/-- Before a step: nothing, or the oldest eligible read answered in its slot, and what its answer lets go on. -/
theorem readsServed_cases (s : State) :
    readsServed s = s ∨
      ∃ q i s1 a, oldestRead s = some q ∧ requestOf q = some i ∧ serve i s = some (s1, a) ∧
        readsServed s = settle (answerSlot s1 q a) := by
  unfold readsServed
  split
  · exact .inl rfl
  · next q hq =>
    split
    · exact .inl rfl
    · next s1 a hs =>
      obtain ⟨i, hi, hs⟩ := Option.bind_eq_some_iff.mp hs
      exact .inr ⟨q, i, s1, a, hq, hi, hs, rfl⟩

/-- Serving the read that waits serves reads and answers slots, and does nothing else. -/
theorem readsServed_settled (s : State) : Settled s (readsServed s) := by
  rcases readsServed_cases s with h | ⟨q, i, s1, a, -, -, hs, h⟩ <;> rw [h]
  · exact Settled.refl s
  · exact ((serve_settled hs).1.trans (answerSlot_settled _ _ _)).trans (settle_settled _)

theorem SlotsOk.readsServed {s : State} (h : SlotsOk s.port) : SlotsOk (readsServed s).port := by
  rcases readsServed_cases s with h1 | ⟨q, i, s1, a, hq, -, hs, h1⟩ <;> rw [h1]
  · exact h
  · have hp := (serve_settled hs).2
    exact SlotsOk.settle (SlotsOk.answer _ (hp ▸ h) (hp ▸ (oldestRead_slot hq).1))

theorem SlotsOk.answerParked {s : State} (h : SlotsOk s.port) : SlotsOk (answerParked s).port := by
  unfold Sys2Proof.Machine.answerParked
  exact SlotsOk.settle
    (SlotsOk.foldl _ (fun _ _ => SlotsOk.parkOne) parkOne_accepted _ _ h.accepted_nodup (fun _ => id) h)

/-- What settles keeps the head of the delivery order, and so the offered slot. -/
theorem Settled.portInv {s t : State} (h : Settled s t) (ht : SlotsOk t.port) (hs : portInv s = true) :
    portInv t = true := by
  rw [portInv_iff] at hs ⊢
  refine ⟨ht, fun p hp => ?_, ?_⟩
  · rw [h.portRest] at hp
    have := hs.2.1 p hp
    obtain ⟨rest, hr⟩ := h.delivery
    rw [hr]
    cases hd : s.port.delivery with
    | nil => rw [hd] at this; simp at this
    | cons a l => rw [hd] at this; simpa using this
  · rw [h.running]
    rcases hs.2.2 with h1 | h1
    · exact .inl h1
    · right; rw [h.portRest]; exact h1

end Sys2Proof.Machine
end

