-- ==== Sys2Proof/Laws/Grants.lean ====
section
/-! SUPPORT. What a grant and the end of a posting can do (R80 to R82, R88 to R91), and what serving a read row does. -/

namespace Sys2Proof.Machine

/-! Grants -/

/-- A granted request has its posting in flight. -/
theorem grantLink_granted {s : State} {i : Instr} {q : Slot} (h : Granted s i q) (body : Draft → Draft × Answer) :
    grantLink s i body = underWay s q (body (startDraft s)).1 (body (startDraft s)).2 := by
  obtain ⟨h1, h2, h3, -⟩ := h
  simp only [grantLink, h2, h1, h3, and_self, if_true]
  rfl

/-- A grant of a request is of that request, in the Link candidate, or nothing happens. -/
theorem grantLink_cases (s : State) (i : Instr) (body : Draft → Draft × Answer) :
    grantLink s i body = s ∨
      ∃ q, arbiterChoice s = some .link ∧ linkCandidate s = some q ∧ requestOf q = some i ∧
        grantLink s i body = underWay s q (body (startDraft s)).1 (body (startDraft s)).2 := by
  unfold grantLink
  split
  · exact .inl rfl
  · next q hq =>
    split
    · next hc => exact .inr ⟨q, hc.1, hq, hc.2, rfl⟩
    · exact .inl rfl

/-- An internal posting is a grant of its item, or nothing. -/
theorem grantInternal_cases (s : State) (k : Kind) (item : Item) (body : Draft → Draft) :
    grantInternal s k item body = s ∨
      (arbiterChoice s = some k ∧ candidate s k = some item ∧
        grantInternal s k item body =
          internalUnderWay s k item (if needsClock item then some s.clock.value else none) (body (startDraft s))) := by
  unfold grantInternal
  split
  · next h => exact .inr ⟨h.1, h.2, rfl⟩
  · exact .inl rfl

/-- A kind is chosen only where a grant may be made and it has a candidate that may be granted (R90, R91). -/
theorem arbiterChoice_some {s : State} {k : Kind} (h : arbiterChoice s = some k) :
    mayGrant s = true ∧ grantable s k = true ∧ s.posting = none := by
  unfold arbiterChoice at h
  split at h
  · next hm =>
    have hg := List.find?_some h
    refine ⟨hm, hg, ?_⟩
    simp only [mayGrant, Bool.and_eq_true, Option.isNone_iff_eq_none] at hm
    exact hm.1.2
  · cases h

/-- The row of a request of the Posting class is the grant of that request, with a read that waits served first. -/
theorem exec_posting {i : Instr} (hq : isRequest i = true) (hr : isRead i = false) :
    ∃ body, ∀ s, exec i s = .next (grantLink (readsServed s) i body) := by
  cases i <;> simp only [isRequest, isRead, Bool.false_eq_true, reduceCtorEq] at hq hr <;> exact ⟨_, fun _ => rfl⟩

/-- Everything but a statement step is granted only while the clock is SET (R91). -/
theorem grantable_needs_set {s : State} {k : Kind} {item : Item} (h : grantable s k = true)
    (hc : candidate s k = some item) (hn : needsClock item = true) : s.clock.state = .set := by
  simpa [grantable, hc, hn] using h

/-- A request is granted only while the clock is SET (R91). -/
theorem Granted.clock_set {s : State} {i : Instr} {q : Slot} (h : Granted s i q) : s.clock.state = .set :=
  grantable_needs_set (arbiterChoice_some h.1).2.1 (by simp [candidate, h.2.1]; rfl) rfl

/-- The slot of a granted request stands in the port, and its request is of the Posting class. -/
theorem Granted.slot {s : State} {i : Instr} {q : Slot} (h : Granted s i q) :
    q ∈ s.port.accepted ∧ isRead i = false := by
  have h2 := h.2.1
  refine ⟨List.mem_of_find?_eq_some h2, ?_⟩
  have h3 := List.find?_some h2
  simp only [isPostingSlot, h.2.2.1, Bool.and_eq_true, Bool.not_eq_true'] at h3
  exact h3.1

/-! Reads -/

/-- A served read is answered in its slot, and the slots this makes eligible follow. -/
theorem serveRow_served {s : State} {i : Instr} {q : Slot} (h : Served s i q) (f : State → State × Answer) :
    serveRow s i f = settle (answerSlot (f s).1 q (f s).2) := by
  simp only [serveRow, h.1, h.2, if_true]

/-- The row of a read serves that read, or, where it is not the oldest eligible one, the one that waits, if any. -/
theorem serveRow_cases (s : State) (i : Instr) (f : State → State × Answer) :
    serveRow s i f = readsServed s ∨ ∃ q, Served s i q ∧ serveRow s i f = settle (answerSlot (f s).1 q (f s).2) := by
  by_cases h : ∃ q, Served s i q
  · obtain ⟨q, hq⟩ := h
    exact .inr ⟨q, hq, serveRow_served hq f⟩
  · left
    unfold serveRow
    split
    · next hq => exact (readsServed_none hq).symm
    · next q hq =>
      split
      · next hc => exact absurd ⟨q, hq, hc⟩ h
      · rfl

/-- A served read's slot stands in the port. -/
theorem Served.slot {s : State} {i : Instr} {q : Slot} (h : Served s i q) :
    q ∈ s.port.accepted ∧ running s = true := oldestRead_slot h.1

/-- The row of a read is the serving of that read. -/
theorem exec_read {i : Instr} {s s1 : State} {a : Answer} (h : serve i s = some (s1, a)) :
    ∃ f, f s = (s1, a) ∧ exec i s = .next (serveRow s i f) := by
  cases i <;> simp only [serve, Option.some.injEq, reduceCtorEq] at h
  all_goals exact ⟨_, h, rfl⟩

/-! The end of a posting -/

theorem answerSlot_place (s : State) (item : Item) (a : Option Answer) :
    Settled s (placeAnswer s item a) := by
  unfold placeAnswer
  (repeat' split)
  · exact Settled.refl s
  · exact answerSlot_settled _ _ _
  · exact Settled.refl s

theorem SlotsOk.placeAnswer {s : State} (item : Item) (a : Option Answer) (h : SlotsOk s.port) :
    SlotsOk (placeAnswer s item a).port := by
  unfold Sys2Proof.Machine.placeAnswer
  (repeat' split)
  · exact h
  · next hq => exact SlotsOk.answer _ h (List.mem_of_find?_eq_some hq)
  · exact h

end Sys2Proof.Machine
end

