-- ==== Sys2Proof/Laws/PerInstr.lean ====
section
/-! SUPPORT. What is shown constructor by constructor of `Instr`: a request row and no other is carried by a frame, its code is
a byte other than the NOP's 00h, and its parameters fit bytes 2 to 29 (R181, R190). -/

namespace Sys2Proof.Laws

/-- A frame carries the command exactly when it is a request, with a code that is no NOP and parameters that fit. -/
def Encodes.Statement (i : Instr) : Prop :=
  (encodeRequest i).isSome = isRequest i ∧
  ∀ code ps, encodeRequest i = some (code, ps) → 0 < code ∧ code < 256 ∧ ps.length ≤ 28

/-- A command that no frame carries. -/
theorem Encodes.of_none {i : Instr} (h : encodeRequest i = none) (hr : isRequest i = false) : Encodes.Statement i := by
  refine ⟨by rw [h, hr]; rfl, fun code ps he => ?_⟩
  rw [h] at he
  cases he

/-- A command that a frame carries under a known code. -/
theorem Encodes.of_some {i : Instr} {c : Nat} {bytes : List Byte} (h : encodeRequest i = some (c, bytes))
    (hr : isRequest i = true) (hc : 0 < c ∧ c < 256) (hl : bytes.length ≤ 28) : Encodes.Statement i := by
  refine ⟨by rw [h, hr]; rfl, fun code ps he => ?_⟩
  rw [h] at he
  cases he
  exact ⟨hc.1, hc.2, hl⟩

theorem Encodes.nselFall : Encodes.Statement .nselFall := Encodes.of_none rfl rfl

theorem Encodes.nselRise (sdi : List Bool) : Encodes.Statement (.nselRise sdi) := Encodes.of_none rfl rfl

theorem Encodes.tick : Encodes.Statement .tick := Encodes.of_none rfl rfl

theorem Encodes.expiryPosting : Encodes.Statement .expiryPosting := Encodes.of_none rfl rfl

theorem Encodes.alarmCutover : Encodes.Statement .alarmCutover := Encodes.of_none rfl rfl

theorem Encodes.statementStep : Encodes.Statement .statementStep := Encodes.of_none rfl rfl

theorem Encodes.latchPosting : Encodes.Statement .latchPosting := Encodes.of_none rfl rfl

theorem Encodes.nresetFall : Encodes.Statement .nresetFall := Encodes.of_none rfl rfl

theorem Encodes.nresetRelease (reading : SupplyReading) : Encodes.Statement (.nresetRelease reading) :=
  Encodes.of_none rfl rfl

theorem Encodes.powerUp (reading : SupplyReading) (vholdCharged : Bool) : Encodes.Statement (.powerUp reading vholdCharged) :=
  Encodes.of_none rfl rfl

theorem Encodes.supplyStop (reading : SupplyReading) : Encodes.Statement (.supplyStop reading) :=
  Encodes.of_none rfl rfl

theorem Encodes.supplyBelowWarning (reading : SupplyReading) : Encodes.Statement (.supplyBelowWarning reading) :=
  Encodes.of_none rfl rfl

theorem Encodes.supplyAboveRecovery (reading : SupplyReading) : Encodes.Statement (.supplyAboveRecovery reading) :=
  Encodes.of_none rfl rfl

theorem Encodes.guardTimerRunsOut (reading : SupplyReading) : Encodes.Statement (.guardTimerRunsOut reading) :=
  Encodes.of_none rfl rfl

theorem Encodes.cardIssue (serial merchant amount validity : Nat) : Encodes.Statement (.cardIssue serial merchant amount validity) :=
  Encodes.of_some rfl rfl (by decide) (by simp [beBytes_length])

theorem Encodes.cardReload (serial merchant amount : Nat) : Encodes.Statement (.cardReload serial merchant amount) :=
  Encodes.of_some rfl rfl (by decide) (by simp [beBytes_length])

theorem Encodes.cardInquire (serial page : Nat) : Encodes.Statement (.cardInquire serial page) :=
  Encodes.of_some rfl rfl (by decide) (by simp [beBytes_length])

theorem Encodes.cardLock (serial : Nat) : Encodes.Statement (.cardLock serial) :=
  Encodes.of_some rfl rfl (by decide) (by simp [beBytes_length])

theorem Encodes.cardUnlock (serial : Nat) : Encodes.Statement (.cardUnlock serial) :=
  Encodes.of_some rfl rfl (by decide) (by simp [beBytes_length])

theorem Encodes.cardRetire (serial : Nat) (reason : RetireReason) : Encodes.Statement (.cardRetire serial reason) :=
  Encodes.of_some rfl rfl (by decide) (by simp [beBytes_length])

theorem Encodes.cardTransfer (source target : Nat) : Encodes.Statement (.cardTransfer source target) :=
  Encodes.of_some rfl rfl (by decide) (by simp [beBytes_length])

theorem Encodes.cardPurge (serial : Nat) : Encodes.Statement (.cardPurge serial) :=
  Encodes.of_some rfl rfl (by decide) (by simp [beBytes_length])

theorem Encodes.redeem (serial merchant amount : Nat) : Encodes.Statement (.redeem serial merchant amount) :=
  Encodes.of_some rfl rfl (by decide) (by simp [beBytes_length])

theorem Encodes.holdPlace (serial merchant amount lifetime : Nat) : Encodes.Statement (.holdPlace serial merchant amount lifetime) :=
  Encodes.of_some rfl rfl (by decide) (by simp [beBytes_length])

theorem Encodes.holdComplete (hold merchant amount : Nat) : Encodes.Statement (.holdComplete hold merchant amount) :=
  Encodes.of_some rfl rfl (by decide) (by simp [beBytes_length])

theorem Encodes.holdVoid (hold merchant : Nat) : Encodes.Statement (.holdVoid hold merchant) :=
  Encodes.of_some rfl rfl (by decide) (by simp [beBytes_length])

theorem Encodes.holdInquire (hold page : Nat) : Encodes.Statement (.holdInquire hold page) :=
  Encodes.of_some rfl rfl (by decide) (by simp [beBytes_length])

theorem Encodes.refund (serial merchant amount : Nat) : Encodes.Statement (.refund serial merchant amount) :=
  Encodes.of_some rfl rfl (by decide) (by simp [beBytes_length])

theorem Encodes.merchantEnrol (merchant : Nat) (settings : Settings) : Encodes.Statement (.merchantEnrol merchant settings) :=
  Encodes.of_some rfl rfl (by decide) (by simp [settingsBytes, beBytes_length])

theorem Encodes.merchantUpdate (merchant : Nat) (settings : Settings) : Encodes.Statement (.merchantUpdate merchant settings) :=
  Encodes.of_some rfl rfl (by decide) (by simp [settingsBytes, beBytes_length])

theorem Encodes.merchantSuspend (merchant : Nat) : Encodes.Statement (.merchantSuspend merchant) :=
  Encodes.of_some rfl rfl (by decide) (by simp [beBytes_length])

theorem Encodes.merchantResume (merchant : Nat) : Encodes.Statement (.merchantResume merchant) :=
  Encodes.of_some rfl rfl (by decide) (by simp [beBytes_length])

theorem Encodes.merchantWithdraw (merchant : Nat) : Encodes.Statement (.merchantWithdraw merchant) :=
  Encodes.of_some rfl rfl (by decide) (by simp [beBytes_length])

theorem Encodes.merchantInquire (merchant page : Nat) : Encodes.Statement (.merchantInquire merchant page) :=
  Encodes.of_some rfl rfl (by decide) (by simp [beBytes_length])

theorem Encodes.scheduleStage (selector : Select) (schedule : Schedule) : Encodes.Statement (.scheduleStage selector schedule) :=
  Encodes.of_some rfl rfl (by decide) (by simp [scheduleBytes, beBytes_length])

theorem Encodes.scheduleRead (selector : Select) (source : ScheduleSource) : Encodes.Statement (.scheduleRead selector source) :=
  Encodes.of_some rfl rfl (by decide) (by simp [beBytes_length])

theorem Encodes.periodClose : Encodes.Statement .periodClose :=
  Encodes.of_some rfl rfl (by decide) (by simp)

theorem Encodes.statementRead (merchant page : Nat) : Encodes.Statement (.statementRead merchant page) :=
  Encodes.of_some rfl rfl (by decide) (by simp [beBytes_length])

theorem Encodes.statementsRelease (period : Nat) : Encodes.Statement (.statementsRelease period) :=
  Encodes.of_some rfl rfl (by decide) (by simp [beBytes_length])

theorem Encodes.totalsRead (page : Nat) : Encodes.Statement (.totalsRead page) :=
  Encodes.of_some rfl rfl (by decide) (by simp [beBytes_length])

theorem Encodes.conditionsClearDevice : Encodes.Statement .conditionsClearDevice :=
  Encodes.of_some rfl rfl (by decide) (by simp [beBytes_length])

theorem Encodes.conditionsClearMerchant (merchant : Nat) : Encodes.Statement (.conditionsClearMerchant merchant) :=
  Encodes.of_some rfl rfl (by decide) (by simp [beBytes_length])

theorem Encodes.conditionsClearAllMerchants : Encodes.Statement .conditionsClearAllMerchants :=
  Encodes.of_some rfl rfl (by decide) (by simp [beBytes_length])

theorem Encodes.conditionsClearCard (serial : Nat) : Encodes.Statement (.conditionsClearCard serial) :=
  Encodes.of_some rfl rfl (by decide) (by simp [beBytes_length])

theorem Encodes.conditionScan (kind : ScanKind) (start : Nat) : Encodes.Statement (.conditionScan kind start) := by
  cases kind <;> exact Encodes.of_some rfl rfl (by decide) (by simp [beBytes_length])

theorem Encodes.eventsRead : Encodes.Statement .eventsRead :=
  Encodes.of_some rfl rfl (by decide) (by simp)

theorem Encodes.eventsClear (flags : BitVec 8) : Encodes.Statement (.eventsClear flags) :=
  Encodes.of_some rfl rfl (by decide) (by simp [beBytes_length])

theorem Encodes.clockSet (value : Nat) : Encodes.Statement (.clockSet value) :=
  Encodes.of_some rfl rfl (by decide) (by simp [beBytes_length])

theorem Encodes.clockRead : Encodes.Statement .clockRead :=
  Encodes.of_some rfl rfl (by decide) (by simp)

theorem Encodes.limitsSetValue (limits : ValueLimits) : Encodes.Statement (.limitsSetValue limits) :=
  Encodes.of_some rfl rfl (by decide) (by simp [valueBytes, beBytes_length])

theorem Encodes.limitsSetMonitor (limits : MonitorLimits) : Encodes.Statement (.limitsSetMonitor limits) :=
  Encodes.of_some rfl rfl (by decide) (by simp [monitorBytes, beBytes_length])

theorem Encodes.limitsSetDevice (limits : DeviceLimits) : Encodes.Statement (.limitsSetDevice limits) :=
  Encodes.of_some rfl rfl (by decide) (by simp [deviceBytes, beBytes_length])

theorem Encodes.limitsRead (group : LimitsGroup) : Encodes.Statement (.limitsRead group) :=
  Encodes.of_some rfl rfl (by decide) (by simp [beBytes_length])

theorem Encodes.postingEnd (reading : SupplyReading) : Encodes.Statement (.postingEnd reading) :=
  Encodes.of_none rfl rfl

end Sys2Proof.Laws
end

