-- ==== Sys2Proof/Laws/Postings.lean ====
section
/-! SUPPORT. What the judgement of a posting keeps, whatever the request: the canonical form of the tables (entry 32), its
now, and a floor that is the one it found or its now (R9). -/

namespace Sys2Proof.Machine

theorem tablesCanonical_iff (r : Records) : tablesCanonical r = true ↔
    canonical .empty r.directory = true ∧ rising r.cards = true ∧ canonical unenrolledMerchant r.merchants = true ∧
    canonical zeroEntry r.openBank.entries = true ∧ canonical zeroEntry r.closingBank.entries = true := by
  simp only [tablesCanonical, Bool.and_eq_true, and_assoc]

/-- What every change inside a posting keeps. -/
structure Kept (d e : Draft) : Prop where
  tables : tablesCanonical d.records = true → tablesCanonical e.records = true
  now : e.now = d.now
  floor : e.records.totals.floor = d.records.totals.floor ∨ e.records.totals.floor = d.now

theorem Kept.refl (d : Draft) : Kept d d := ⟨id, rfl, .inl rfl⟩

theorem Kept.trans {d e f : Draft} (h : Kept d e) (k : Kept e f) : Kept d f where
  tables := fun hd => k.tables (h.tables hd)
  now := k.now.trans h.now
  floor := by
    rcases k.floor with k1 | k1
    · rw [k1]; exact h.floor
    · right; rw [k1, h.now]

/-- A change that keeps the now and the records, or moves them without touching a table or the floor. -/
theorem Kept.of_same {d e : Draft} (hn : e.now = d.now) (h1 : e.records.directory = d.records.directory)
    (h2 : e.records.cards = d.records.cards) (h3 : e.records.merchants = d.records.merchants)
    (h4 : e.records.openBank.entries = d.records.openBank.entries)
    (h5 : e.records.closingBank.entries = d.records.closingBank.entries)
    (h6 : e.records.totals.floor = d.records.totals.floor) : Kept d e :=
  ⟨fun h => by rw [tablesCanonical_iff] at h ⊢; rwa [h1, h2, h3, h4, h5], hn, .inl h6⟩

section Updates

variable (d : Draft)

theorem kept_commit : Kept d d.commit :=
  ⟨fun h => by rw [tablesCanonical_iff] at h ⊢; exact h, rfl, .inr rfl⟩

theorem kept_putCard (j : Nat) (c : Card) : Kept d (d.putCard j c) :=
  ⟨fun h => by
    rw [tablesCanonical_iff] at h ⊢
    exact ⟨h.1, rising_insert _ _ _ h.2.1, h.2.2⟩, rfl, .inl rfl⟩

theorem kept_putMerchant (m : Nat) (x : Merchant) : Kept d (d.putMerchant m x) :=
  ⟨fun h => by
    rw [tablesCanonical_iff] at h ⊢
    exact ⟨h.1, h.2.1, canonical_put _ _ _ _ h.2.2.1, h.2.2.2⟩, rfl, .inl rfl⟩

theorem kept_putEntry (m : Nat) (e : Entry) : Kept d (d.putEntry m e) :=
  ⟨fun h => by
    rw [tablesCanonical_iff] at h ⊢
    exact ⟨h.1, h.2.1, h.2.2.1, canonical_put _ _ _ _ h.2.2.2.1, h.2.2.2.2⟩, rfl, .inl rfl⟩

theorem kept_markSaturated (hit : Bool) : Kept d (d.markSaturated hit) := .of_same rfl rfl rfl rfl rfl rfl rfl

theorem kept_post (m : Nat) (a : Accum) (x : Nat) : Kept d (d.post m a x) :=
  (kept_putEntry _ _ _).trans (kept_markSaturated _ _)

theorem kept_addOutstanding (x : Int) : Kept d (d.addOutstanding x) := .of_same rfl rfl rfl rfl rfl rfl rfl

theorem kept_addRetired (x : Int) : Kept d (d.addRetired x) := .of_same rfl rfl rfl rfl rfl rfl rfl

theorem kept_placeCard (j : Nat) (c : Card) : Kept d (d.placeCard j c) :=
  ⟨fun h => by
    rw [tablesCanonical_iff] at h ⊢
    simp only [Draft.placeCard_records]
    exact ⟨canonical_put _ _ _ _ h.1, rising_insert _ _ _ h.2.1, h.2.2⟩, rfl, .inl rfl⟩

theorem kept_purgeCard (j : Nat) : Kept d (d.purgeCard j) :=
  ⟨fun h => by
    rw [tablesCanonical_iff] at h ⊢
    exact ⟨canonical_vacate _ _ h.1, rising_erase _ _ h.2.1, h.2.2⟩, rfl, .inl rfl⟩

theorem kept_addHold (h : Hold) : Kept d (d.addHold h) :=
  Kept.trans (e := d.mapRecords (fun r => { r with holds := insertHold h r.holds, holdIdCounter := nextHoldId h.id }))
    (.of_same rfl rfl rfl rfl rfl rfl rfl) (kept_putMerchant _ _ _)

theorem kept_removeHold (h : Hold) : Kept d (d.removeHold h) :=
  Kept.trans (e := d.mapRecords (fun r => { r with holds := eraseHold r.holds h.id }))
    (.of_same rfl rfl rfl rfl rfl rfl rfl) (kept_putMerchant _ _ _)

theorem kept_raise (e : Event) : Kept d (d.raise e) := .of_same rfl rfl rfl rfl rfl rfl rfl

theorem kept_spendEvents (c : Card) : Kept d (d.spendEvents c) := .of_same rfl rfl rfl rfl rfl rfl rfl

theorem kept_evalDirHigh : Kept d d.evalDirHigh := .of_same rfl rfl rfl rfl rfl rfl rfl

theorem kept_evalHoldsHigh : Kept d d.evalHoldsHigh := .of_same rfl rfl rfl rfl rfl rfl rfl

theorem kept_latchRefund (m : Nat) : Kept d (d.latchRefund m) := (kept_putMerchant _ _ _).trans (kept_raise _ _)

theorem kept_evalDeficit (m : Nat) : Kept d (d.evalDeficit m) := by
  unfold Draft.evalDeficit
  split
  · exact (kept_putMerchant _ _ _).trans (kept_raise _ _)
  · exact .refl _

theorem kept_evalRefund (m : Nat) : Kept d (d.evalRefund m) := by
  unfold Draft.evalRefund
  (repeat' split)
  · exact .refl _
  · exact .refl _
  · exact kept_latchRefund _ _
  · exact .of_same rfl rfl rfl rfl rfl rfl rfl
  · exact .of_same rfl rfl rfl rfl rfl rfl rfl

theorem kept_evalMerchant (m : Nat) : Kept d (d.evalMerchant m) := (kept_evalDeficit _ _).trans (kept_evalRefund _ _)

theorem kept_finalise (j : Nat) (c : Card) (r : RetireReason) : Kept d (d.finalise j c r) := by
  cases r
  · exact (kept_putCard _ _ _).trans ((kept_post _ _ _ _).trans (kept_addOutstanding _ _))
  · exact (kept_putCard _ _ _).trans ((kept_addRetired _ _).trans (kept_addOutstanding _ _))
  · exact (kept_putCard _ _ _).trans ((kept_addRetired _ _).trans (kept_addOutstanding _ _))
  · exact kept_putCard _ _ _

theorem kept_evalFinalised (r : RetireReason) : Kept d (d.evalFinalised r) := by
  cases r
  · exact kept_evalMerchant _ _
  · exact .refl _
  · exact .refl _
  · exact .refl _

theorem kept_takeValue (m x : Nat) : Kept d (d.takeValue m x) := (kept_post _ _ _ _).trans (kept_addOutstanding _ _)

theorem kept_settleCard (j : Nat) (c : Card) : Kept d (d.settleCard j c) := by
  unfold Draft.settleCard
  split
  · exact kept_putCard _ _ _
  · exact kept_finalise _ _ _ _

theorem kept_evalSettled (c : Card) : Kept d (d.evalSettled c) := by
  unfold Draft.evalSettled
  split
  · exact .refl _
  · exact kept_evalFinalised _ _

theorem kept_putLimits (l : Limits) : Kept d (d.putLimits l) :=
  Kept.trans (e := d.mapRecords (fun r => { r with limits := l })) (.of_same rfl rfl rfl rfl rfl rfl rfl)
    (kept_commit _)

theorem kept_releaseChanges (h : Hold) (c : Card) : Kept d (releaseChanges d h c) :=
  (kept_removeHold _ _).trans ((kept_settleCard _ _ _).trans ((kept_evalSettled _ _).trans
    ((kept_evalHoldsHigh _).trans (kept_commit _))))

theorem kept_creditChanges (j : Nat) (c : Card) (m : Nat) (a : Accum) (x : Nat) :
    Kept d (creditChanges d j c m a x) :=
  (kept_putCard _ _ _).trans ((kept_post _ _ _ _).trans ((kept_addOutstanding _ _).trans
    ((kept_evalMerchant _ _).trans (kept_commit _))))

theorem canonical_captureOne (t : Table Entry) (x : Nat × Merchant) (h : canonical zeroEntry t = true) :
    canonical zeroEntry (captureOne t x) = true := by
  unfold captureOne
  split
  · exact h
  · exact canonical_put _ _ _ _ h
  · exact canonical_put _ _ _ _ h
  · exact canonical_put _ _ _ _ h

theorem kept_cutover : Kept d d.cutover := by
  refine ⟨fun h => ?_, rfl, .inl rfl⟩
  rw [tablesCanonical_iff] at h ⊢
  refine ⟨h.1, h.2.1, h.2.2.1, rfl, ?_⟩
  show canonical zeroEntry (d.records.merchants.foldl captureOne d.records.openBank.entries) = true
  have : ∀ (l : Table Merchant) (t : Table Entry), canonical zeroEntry t = true →
      canonical zeroEntry (l.foldl captureOne t) = true := by
    intro l
    induction l with
    | nil => exact fun _ ht => ht
    | cons x rest ih => exact fun t ht => ih _ (canonical_captureOne _ _ ht)
  exact this _ _ h.2.2.2.1

theorem kept_returnMerchant (m : Nat) : Kept d (d.returnMerchant m) :=
  (kept_putMerchant _ _ _).trans ((kept_putEntry _ _ _).trans (.of_same rfl rfl rfl rfl rfl rfl rfl))

theorem kept_foldl {α : Type} (f : Draft → α → Draft) (hf : ∀ d x, Kept d (f d x)) (l : List α) (d : Draft) :
    Kept d (l.foldl f d) := by
  induction l generalizing d with
  | nil => exact .refl _
  | cons x rest ih => exact (hf d x).trans (ih _)

theorem kept_releasePeriod (q : Nat) : Kept d (releasePeriod d q) := by
  unfold releasePeriod
  generalize returnedMerchants d.records q = l
  refine Kept.trans (e := d.mapRecords releaseBank) ⟨fun h => ?_, rfl, .inl rfl⟩
    (Kept.trans (kept_foldl Draft.returnMerchant kept_returnMerchant l _) (Kept.trans (e := Draft.deferredCutover _) ?_
      (kept_commit _)))
  · rw [tablesCanonical_iff] at h ⊢
    exact ⟨h.1, h.2.1, h.2.2.1, h.2.2.2.1, rfl⟩
  · unfold Draft.deferredCutover
    split
    · exact Kept.trans (e := Draft.mapRecords _ _) (.of_same rfl rfl rfl rfl rfl rfl rfl) (kept_cutover _)
    · exact .refl _

theorem kept_readyEvent (m : Nat) : Kept d (d.readyEvent m) := by
  unfold Draft.readyEvent
  split
  · exact kept_raise _ _
  · exact .refl _

theorem kept_postStatementStep (m : Nat) : Kept d (postStatementStep m d) := by
  unfold postStatementStep
  simp only
  split
  · refine (kept_readyEvent d m).trans ⟨fun h => ?_, rfl, .inl rfl⟩
    rw [tablesCanonical_iff] at h ⊢
    exact h
  · unfold stepChanges
    refine (kept_readyEvent d m).trans (Kept.trans (e := Draft.mapRecords _ _) ⟨fun h => ?_, rfl, .inl rfl⟩
      (Kept.trans (e := Draft.putEntry _ _ _) (kept_putEntry _ _ _) (kept_evalDeficit _ _)))
    rw [tablesCanonical_iff] at h ⊢
    exact ⟨h.1, h.2.1, h.2.2.1, h.2.2.2.1, canonical_put _ _ _ _ h.2.2.2.2⟩

theorem kept_postLatch (m : Nat) : Kept d (postLatch m d) := by
  unfold postLatch
  simp only
  split
  · exact Kept.trans (e := { d with qual := eraseQual d.qual m }) (.of_same rfl rfl rfl rfl rfl rfl rfl)
      ((kept_latchRefund _ _).trans (kept_commit _))
  · exact .of_same rfl rfl rfl rfl rfl rfl rfl

theorem kept_postExpiry (h : Nat) : Kept d (postExpiry h d) := by
  unfold postExpiry
  (repeat' split)
  · exact .refl _
  · exact .refl _
  · exact (kept_releaseChanges _ _ _).trans (kept_raise _ _)

theorem kept_postAlarmCutover : Kept d (postAlarmCutover d) := by
  unfold postAlarmCutover
  split
  · exact (kept_cutover _).trans (kept_commit _)
  · refine Kept.trans (e := (d.mapRecords (fun r =>
      { r with totals := { r.totals with closeDeferred := true } })).raise .closeDeferred)
      (.of_same rfl rfl rfl rfl rfl rfl rfl) ((kept_commit _).trans (.of_same rfl rfl rfl rfl rfl rfl rfl))

theorem kept_clearMerchant (dt : Draft × Tally) (m : Nat) : Kept dt.1 (clearMerchant dt m).1 := kept_putMerchant _ _ _

theorem kept_foldl_clear (l : List Nat) (dt : Draft × Tally) : Kept dt.1 (l.foldl clearMerchant dt).1 := by
  induction l generalizing dt with
  | nil => exact .refl _
  | cons x rest ih => exact (kept_clearMerchant dt x).trans (ih _)

theorem kept_clearEnd (dt : Draft × Tally) (h : Kept d dt.1) : Kept d (clearEnd d dt).1 := by
  unfold clearEnd
  simp only
  split
  · exact .refl _
  · exact h.trans (kept_commit _)

end Updates

/-! The requests -/

section Requests

variable (d : Draft)

theorem kept_postCardIssue (x m a v : Nat) : Kept d (postCardIssue x m a v d).1 := by
  unfold postCardIssue
  simp only
  (repeat' split) <;> first
    | exact .refl _
    | exact (kept_placeCard _ _ _).trans ((kept_post _ _ _ _).trans ((kept_addOutstanding _ _).trans
        ((kept_evalMerchant _ _).trans ((kept_evalDirHigh _).trans (kept_commit _)))))

theorem kept_postCardReload (x m a : Nat) : Kept d (postCardReload x m a d).1 := by
  unfold postCardReload
  (repeat' split) <;> first
    | exact .refl _
    | exact kept_creditChanges _ _ _ _ _ _

theorem kept_postRefund (x m a : Nat) : Kept d (postRefund x m a d).1 := by
  unfold postRefund
  (repeat' split) <;> first
    | exact .refl _
    | exact kept_creditChanges _ _ _ _ _ _

theorem kept_postCardLock (x : Nat) : Kept d (postCardLock x d).1 := by
  unfold postCardLock
  (repeat' split) <;> first
    | exact .refl _
    | exact (kept_putCard _ _ _).trans (kept_commit _)

theorem kept_postCardUnlock (x : Nat) : Kept d (postCardUnlock x d).1 := by
  unfold postCardUnlock
  (repeat' split) <;> first
    | exact .refl _
    | exact (kept_putCard _ _ _).trans (kept_commit _)

theorem kept_postCardRetire (x : Nat) (r : RetireReason) : Kept d (postCardRetire x r d).1 := by
  unfold postCardRetire
  (repeat' split) <;> first
    | exact .refl _
    | exact (kept_finalise _ _ _ _).trans ((kept_evalFinalised _ _).trans (kept_commit _))
    | exact (kept_putCard _ _ _).trans (kept_commit _)

theorem kept_postCardTransfer (x y : Nat) : Kept d (postCardTransfer x y d).1 := by
  unfold postCardTransfer transferToCard transferToNew
  (repeat' split) <;> first
    | exact .refl _
    | exact (kept_putCard _ _ _).trans ((kept_putCard _ _ _).trans (kept_commit _))
    | exact (kept_placeCard _ _ _).trans ((kept_putCard _ _ _).trans ((kept_evalDirHigh _).trans (kept_commit _)))

theorem kept_postCardPurge (x : Nat) : Kept d (postCardPurge x d).1 := by
  unfold postCardPurge
  (repeat' split) <;> first
    | exact .refl _
    | exact (kept_purgeCard _ _).trans ((kept_evalDirHigh _).trans (kept_commit _))

theorem kept_postRedeem (x m a : Nat) : Kept d (postRedeem x m a d).1 := by
  unfold postRedeem
  (repeat' split) <;> first
    | exact .refl _
    | exact (kept_spendEvents _ _).trans ((kept_putCard _ _ _).trans ((kept_takeValue _ _ _).trans
        ((kept_evalMerchant _ _).trans (kept_commit _))))

theorem kept_postHoldPlace (x m a l : Nat) : Kept d (postHoldPlace x m a l d).1 := by
  unfold postHoldPlace
  (repeat' split) <;> first
    | exact .refl _
    | exact (kept_spendEvents _ _).trans ((kept_addHold _ _).trans ((kept_putCard _ _ _).trans
        ((kept_evalHoldsHigh _).trans (kept_commit _))))

theorem kept_completeChanges (h : Hold) (c : Card) (x b w : Nat) : Kept d (completeChanges d h c x b w) :=
  (kept_removeHold _ _).trans ((kept_takeValue _ _ _).trans ((kept_settleCard _ _ _).trans
    ((kept_evalMerchant _ _).trans ((kept_evalSettled _ _).trans ((kept_evalHoldsHigh _).trans (kept_commit _))))))

theorem kept_completed (h : Hold) (c : Card) (r : Result) (x b w : Nat) : Kept d (completed d h c r x b w).1 :=
  kept_completeChanges _ _ _ _ _ _

theorem kept_completeOver (h : Hold) (c : Card) (a : Nat) (p : Bool) : Kept d (completeOver d h c a p).1 := by
  unfold completeOver
  split
  · exact kept_completed _ _ _ _ _ _ _
  split
  · exact kept_completed _ _ _ _ _ _ _
  · exact .refl _

theorem kept_completeHold (h : Hold) (c : Card) (a : Nat) : Kept d (completeHold d h c a).1 := by
  unfold completeHold
  split
  · exact (kept_releaseChanges _ _ _).trans (kept_raise _ _)
  split
  · exact .refl _
  split
  · exact kept_completed _ _ _ _ _ _ _
  · exact kept_completeOver _ _ _ _ _

theorem kept_postHoldComplete (h m a : Nat) : Kept d (postHoldComplete h m a d).1 := by
  unfold postHoldComplete
  (repeat' split) <;> first
    | exact .refl _
    | exact kept_completeHold _ _ _ _

theorem kept_postHoldVoid (h m : Nat) : Kept d (postHoldVoid h m d).1 := by
  unfold postHoldVoid
  (repeat' split) <;> first
    | exact .refl _
    | exact (kept_releaseChanges _ _ _).trans (kept_raise _ _)
    | exact kept_releaseChanges _ _ _

theorem kept_merchantWrite (m : Nat) (x : Merchant) : Kept d (d.putMerchant m x).commit :=
  (kept_putMerchant _ _ _).trans (kept_commit _)

theorem kept_postMerchantEnrol (m : Nat) (st : Settings) : Kept d (postMerchantEnrol m st d).1 := by
  unfold postMerchantEnrol
  simp only
  split <;> first
    | exact .refl _
    | exact kept_merchantWrite _ _ _

theorem kept_postMerchantUpdate (m : Nat) (st : Settings) : Kept d (postMerchantUpdate m st d).1 := by
  unfold postMerchantUpdate
  split <;> first
    | exact .refl _
    | exact kept_merchantWrite _ _ _

theorem kept_postMerchantSuspend (m : Nat) : Kept d (postMerchantSuspend m d).1 := by
  unfold postMerchantSuspend
  split <;> first
    | exact .refl _
    | exact kept_merchantWrite _ _ _

theorem kept_postMerchantResume (m : Nat) : Kept d (postMerchantResume m d).1 := by
  unfold postMerchantResume
  split <;> first
    | exact .refl _
    | exact kept_merchantWrite _ _ _

theorem kept_postMerchantWithdraw (m : Nat) : Kept d (postMerchantWithdraw m d).1 := by
  unfold postMerchantWithdraw withdrawTrading
  simp only
  (repeat' split) <;> first
    | exact .refl _
    | exact kept_merchantWrite _ _ _

theorem kept_postScheduleStage (sel : Select) (sc : Schedule) : Kept d (postScheduleStage sel sc d).1 := by
  unfold postScheduleStage
  split
  · refine Kept.trans (e := Draft.mapRecords _ _) ?_ (kept_commit _)
    cases sel <;> exact .of_same rfl rfl rfl rfl rfl rfl rfl
  · exact .refl _

theorem kept_postPeriodClose : Kept d (postPeriodClose d).1 := by
  unfold postPeriodClose
  simp only
  split
  · exact (kept_cutover _).trans (kept_commit _)
  · exact .refl _

theorem kept_postStatementsRelease (q : Nat) : Kept d (postStatementsRelease q d).1 := by
  unfold postStatementsRelease
  simp only
  (repeat' split) <;> first
    | exact .refl _
    | exact kept_releasePeriod _ _

theorem kept_postClearDevice : Kept d (postClearDevice d).1 := .of_same rfl rfl rfl rfl rfl rfl rfl

theorem kept_postClearMerchant (m : Nat) : Kept d (postClearMerchant m d).1 :=
  kept_clearEnd _ _ (kept_clearMerchant (d, _) _)

theorem kept_postClearAllMerchants : Kept d (postClearAllMerchants d).1 :=
  kept_clearEnd _ _ (kept_foldl_clear _ (d, _))

theorem kept_postClearCard (x : Nat) : Kept d (postClearCard x d).1 := by
  unfold postClearCard
  simp only
  (repeat' split) <;> first
    | exact .refl _
    | exact (kept_putCard _ _ _).trans (kept_commit _)

theorem kept_postLimitsValue (l : ValueLimits) : Kept d (postLimitsValue l d).1 := by
  unfold postLimitsValue
  split
  · exact kept_putLimits _ _
  · exact .refl _

theorem kept_postLimitsMonitor (l : MonitorLimits) : Kept d (postLimitsMonitor l d).1 := by
  unfold postLimitsMonitor Draft.evalWatermarks
  simp only
  (repeat' split) <;> first
    | exact .refl _
    | exact kept_putLimits _ _
    | exact (kept_putLimits _ _).trans (kept_evalDirHigh _)
    | exact (kept_putLimits _ _).trans (kept_evalHoldsHigh _)
    | exact (kept_putLimits _ _).trans ((kept_evalDirHigh _).trans (kept_evalHoldsHigh _))

theorem kept_postLimitsDevice (l : DeviceLimits) : Kept d (postLimitsDevice l d).1 := by
  unfold postLimitsDevice
  split
  · exact (kept_putLimits d _).trans (.of_same rfl rfl rfl rfl rfl rfl rfl)
  · exact .refl _

/-- Every row of the Posting class is a grant whose judgement keeps the tables, its now and the floor's bound, with a read
that waits served first. -/
theorem exec_posting_kept {i : Instr} (hq : isRequest i = true) (hr : isRead i = false) :
    ∃ body, (∀ s, exec i s = .next (grantLink (readsServed s) i body)) ∧ ∀ d, Kept d (body d).1 := by
  cases i <;> simp only [isRequest, isRead, Bool.false_eq_true, reduceCtorEq] at hq hr
  case cardIssue => exact ⟨_, fun _ => rfl, fun _ => kept_postCardIssue _ _ _ _ _⟩
  case cardReload => exact ⟨_, fun _ => rfl, fun _ => kept_postCardReload _ _ _ _⟩
  case cardLock => exact ⟨_, fun _ => rfl, fun _ => kept_postCardLock _ _⟩
  case cardUnlock => exact ⟨_, fun _ => rfl, fun _ => kept_postCardUnlock _ _⟩
  case cardRetire => exact ⟨_, fun _ => rfl, fun _ => kept_postCardRetire _ _ _⟩
  case cardTransfer => exact ⟨_, fun _ => rfl, fun _ => kept_postCardTransfer _ _ _⟩
  case cardPurge => exact ⟨_, fun _ => rfl, fun _ => kept_postCardPurge _ _⟩
  case redeem => exact ⟨_, fun _ => rfl, fun _ => kept_postRedeem _ _ _ _⟩
  case holdPlace => exact ⟨_, fun _ => rfl, fun _ => kept_postHoldPlace _ _ _ _ _⟩
  case holdComplete => exact ⟨_, fun _ => rfl, fun _ => kept_postHoldComplete _ _ _ _⟩
  case holdVoid => exact ⟨_, fun _ => rfl, fun _ => kept_postHoldVoid _ _ _⟩
  case refund => exact ⟨_, fun _ => rfl, fun _ => kept_postRefund _ _ _ _⟩
  case merchantEnrol => exact ⟨_, fun _ => rfl, fun _ => kept_postMerchantEnrol _ _ _⟩
  case merchantUpdate => exact ⟨_, fun _ => rfl, fun _ => kept_postMerchantUpdate _ _ _⟩
  case merchantSuspend => exact ⟨_, fun _ => rfl, fun _ => kept_postMerchantSuspend _ _⟩
  case merchantResume => exact ⟨_, fun _ => rfl, fun _ => kept_postMerchantResume _ _⟩
  case merchantWithdraw => exact ⟨_, fun _ => rfl, fun _ => kept_postMerchantWithdraw _ _⟩
  case scheduleStage => exact ⟨_, fun _ => rfl, fun _ => kept_postScheduleStage _ _ _⟩
  case periodClose => exact ⟨_, fun _ => rfl, fun _ => kept_postPeriodClose _⟩
  case statementsRelease => exact ⟨_, fun _ => rfl, fun _ => kept_postStatementsRelease _ _⟩
  case conditionsClearDevice => exact ⟨_, fun _ => rfl, fun _ => kept_postClearDevice _⟩
  case conditionsClearMerchant => exact ⟨_, fun _ => rfl, fun _ => kept_postClearMerchant _ _⟩
  case conditionsClearAllMerchants => exact ⟨_, fun _ => rfl, fun _ => kept_postClearAllMerchants _⟩
  case conditionsClearCard => exact ⟨_, fun _ => rfl, fun _ => kept_postClearCard _ _⟩
  case limitsSetValue => exact ⟨_, fun _ => rfl, fun _ => kept_postLimitsValue _ _⟩
  case limitsSetMonitor => exact ⟨_, fun _ => rfl, fun _ => kept_postLimitsMonitor _ _⟩
  case limitsSetDevice => exact ⟨_, fun _ => rfl, fun _ => kept_postLimitsDevice _ _⟩

end Requests
end Sys2Proof.Machine
end

