-- ==== Sys2Proof/Laws/Refusals.lean ====
section
/-! SUPPORT. The tables of refusals: the checks a posting makes are the lists of checks the claims give, first failure first
(R33, R35, R55, R57, R72, R103). -/

namespace Sys2Proof.Machine

@[simp] theorem firstFailure_nil : firstFailure [] = none := rfl

@[simp] theorem firstFailure_cons (b : Bool) (r : Result) (rest : List (Bool × Result)) :
    firstFailure ((b, r) :: rest) = if b then firstFailure rest else some r := rfl

/-- The first failure of two lists is that of the first list, or, where it has none, that of the second. -/
theorem firstFailure_append (l k : List (Bool × Result)) :
    firstFailure (l ++ k) = (firstFailure l).or (firstFailure k) := by
  induction l with
  | nil => simp
  | cons c rest ih => simp only [List.cons_append, firstFailure]; split <;> simp_all

/-- Merchant checks 1 and 2 (R103). -/
theorem tradingRefusal_eq (x : Merchant) : tradingRefusal x = firstFailure (tradingChecks x) := by
  unfold tradingRefusal tradingChecks
  cases h : x.state <;> simp

/-- The merchant checks of an issue and a reload (R33, R35, R103). -/
theorem salesRefusal_eq (x : Merchant) : salesRefusal x = firstFailure (salesChecks x) := by
  unfold salesRefusal salesChecks
  rw [firstFailure_append, tradingRefusal_eq]
  cases firstFailure (tradingChecks x) <;> cases x.settings.salesPermitted <;> cases x.salesBlocked <;> simp

/-- The merchant checks of a refund (R72, R103). -/
theorem refundRefusal_eq (x : Merchant) : refundRefusal x = firstFailure (refundChecks x) := by
  unfold refundRefusal refundChecks
  rw [firstFailure_append, tradingRefusal_eq]
  cases firstFailure (tradingChecks x) <;> cases x.settings.refundsPermitted <;> cases x.refundsBlocked <;> simp

/-- A card is expired exactly when it has a valid until that the now has reached (R32). -/
theorem isExpired_eq (now : Nat) (c : Card) : isExpired now c = !decide (∀ v ∈ c.validUntil, now < v) := by
  unfold isExpired
  cases c.validUntil with
  | none => simp
  | some v => by_cases h : now < v <;> simp [h, Nat.not_le_of_lt, Nat.le_of_not_lt]

/-- The card checks of a value request: found, and then state and expiry in their order (R35, R55, R72). -/
theorem usableCard_eq (d : Draft) (serial : Nat) :
    usableCard d serial =
      match cardOf d.records serial with
      | none => .error .noCard
      | some jc =>
          match firstFailure (spendableChecks d.now jc.2) with
          | none => .ok jc
          | some r => .error r := by
  unfold usableCard
  cases cardOf d.records serial with
  | none => rfl
  | some jc =>
    obtain ⟨j, c⟩ := jc
    simp only [spendableChecks, firstFailure_cons, firstFailure_nil, isExpired_eq, stateRefusal]
    generalize decide (∀ v ∈ c.validUntil, d.now < v) = live
    cases h : c.state <;> cases live <;> simp

end Sys2Proof.Machine
end

