-- ==== Sys2Proof/Laws/Values.lean ====
section
/-! SUPPORT. What a value posting does: an accumulator and outstanding moved, and the merchant's conditions evaluated (R119,
R152). -/

namespace Sys2Proof.Machine

variable (d : Draft)

/-- An accumulator of a merchant and outstanding moved, then its conditions evaluated: the core of every value posting. -/
def Draft.postValue (m : Nat) (a : Accum) (x : Nat) (y : Int) : Draft :=
  ((d.post m a x).addOutstanding y).evalMerchant m

/-- Of the records a value posting moves entries, the SATURATED flag, outstanding and the merchant's flags, and nothing
else. -/
theorem Draft.postValue_records (m : Nat) (a : Accum) (x : Nat) (y : Int) :
    let r := d.records
    let r' := (d.postValue m a x y).records
    let o := r.totals.outstanding + y
    r' = { r with
      merchants := r'.merchants
      openBank := { r.openBank with
        entries := r'.openBank.entries
        saturated := r.openBank.saturated || (overflows (accumGet (openEntry r m) a + x) || overflows o) }
      totals := { r.totals with outstanding := satPos o } } := by
  simp only [Draft.postValue]
  generalize hd : (d.post m a x).addOutstanding y = d1
  have h1 := congrArg Draft.records hd
  simp only [Draft.addOutstanding_records, Draft.post_records] at h1
  have h2 : (d1.evalMerchant m).records = { d1.records with merchants := (d1.evalMerchant m).records.merchants } := by
    cases hr : (d1.evalMerchant m).records
    have := Draft.evalMerchant_directory d1 m
    have := Draft.evalMerchant_occupancy d1 m
    have := Draft.evalMerchant_cards d1 m
    have := Draft.evalMerchant_holds d1 m
    have := Draft.evalMerchant_holdIdCounter d1 m
    have := Draft.evalMerchant_openBank d1 m
    have := Draft.evalMerchant_closingBank d1 m
    have := Draft.evalMerchant_stagedA d1 m
    have := Draft.evalMerchant_stagedB d1 m
    have := Draft.evalMerchant_stagedAValid d1 m
    have := Draft.evalMerchant_stagedBValid d1 m
    have := Draft.evalMerchant_totals d1 m
    have := Draft.evalMerchant_limits d1 m
    simp_all
  rw [h2, ← h1]
  simp [Bool.or_assoc]

theorem Draft.postValue_entry (m : Nat) (a : Accum) (x : Nat) (y : Int) (k : Nat) :
    openEntry (d.postValue m a x y).records k =
      if k = m then raiseEntry (openEntry d.records m) a x else openEntry d.records k := by
  rw [Draft.postValue, openEntry_evalMerchant]
  exact openEntry_put d.records { d.records.openBank with
    saturated := d.records.openBank.saturated || overflows (accumGet (openEntry d.records m) a + x) ||
      overflows (d.records.totals.outstanding + y) } m _ k

/-- The merchants: only flags and blocks of the merchant itself can move. -/
theorem Draft.postValue_merchant (m : Nat) (a : Accum) (x : Nat) (y : Int) (k : Nat) :
    let u := merchantOf d.records k
    let v := merchantOf (d.postValue m a x y).records k
    v.state = u.state ∧ v.settings = u.settings ∧ v.openHolds = u.openHolds ∧ v.withdrawnIn = u.withdrawnIn ∧
      (k ≠ m → v = u) := by
  have h := Draft.evalMerchant_merchant ((d.post m a x).addOutstanding y) m k
  have hm : merchantOf ((d.post m a x).addOutstanding y).records k = merchantOf d.records k := by
    simp only [merchantOf, Draft.addOutstanding_records, Draft.post_records]
  rw [hm] at h
  unfold Draft.postValue
  exact h

theorem Draft.postValue_qual (m : Nat) (a : Accum) (x : Nat) (y : Int) (k : Qual) (h : k.merchant ≠ m) :
    k ∈ (d.postValue m a x y).qual ↔ k ∈ d.qual := by
  have hq := Draft.evalMerchant_qual_other ((d.post m a x).addOutstanding y) m k h
  rw [Draft.addOutstanding_qual, Draft.post_qual] at hq
  unfold Draft.postValue
  exact hq

theorem Draft.postValue_events (m : Nat) (a : Accum) (x : Nat) (y : Int) :
    (d.postValue m a x y).events = d.events ∨ (d.postValue m a x y).events = d.events ||| 0x40#8 := by
  have he := Draft.evalMerchant_events ((d.post m a x).addOutstanding y) m
  rw [Draft.addOutstanding_events, Draft.post_events] at he
  unfold Draft.postValue
  exact he

@[simp] theorem Draft.postValue_dirHigh (m : Nat) (a : Accum) (x : Nat) (y : Int) :
    (d.postValue m a x y).dirHigh = d.dirHigh := by simp [Draft.postValue]
@[simp] theorem Draft.postValue_holdsHigh (m : Nat) (a : Accum) (x : Nat) (y : Int) :
    (d.postValue m a x y).holdsHigh = d.holdsHigh := by simp [Draft.postValue]
@[simp] theorem Draft.postValue_now (m : Nat) (a : Accum) (x : Nat) (y : Int) :
    (d.postValue m a x y).now = d.now := by simp [Draft.postValue]
@[simp] theorem Draft.postValue_clearsAlarm (m : Nat) (a : Accum) (x : Nat) (y : Int) :
    (d.postValue m a x y).clearsAlarm = d.clearsAlarm := by simp [Draft.postValue]
@[simp] theorem Draft.postValue_finish (m : Nat) (a : Accum) (x : Nat) (y : Int) :
    (d.postValue m a x y).finish = d.finish := by simp [Draft.postValue]

end Sys2Proof.Machine
end

