-- ==== Sys2Proof/Tests/Slice0.lean ====
section
/-! SUPPORT. Tests of single steps against the worked examples of spec/, the smoke test of the checks of WellFormed, and for
every obligation with hypotheses states and operands that meet them together, clause by clause. -/

namespace Sys2Proof.Tests

-- One proof at a time: the many closed facts of this file, checked side by side, would exceed the memory of a run.
set_option Elab.async false

open Sys2Proof.Machine

/-! Small states -/

/-- The slot a request is waiting in. -/
def slotOf (r : Records) (i : Instr) : Slot :=
  match encodeRequest i with
  | some (code, ps) =>
      { place := 7, code := BitVec.ofNat 8 code, tag := 0x5A#8, params := padParams ps, serials := namedSerials r i }
  | none => { place := 7, code := 0#8, tag := 0#8, params := [], serials := [] }

/-- A state with one request accepted and waiting. -/
def asking (s : State) (i : Instr) : State :=
  { s with port := { s.port with accepted := [slotOf s.records i], nextPlace := 8 } }

/-- A state with its records changed. -/
def withRecords (s : State) (f : Records → Records) : State := { s with records := f s.records }

/-- The state a command leaves. -/
def after (i : Instr) (s : State) : Option State :=
  match exec i s with
  | .next t => some t
  | .fault _ => none
  | .refused _ => none

/-- The response a grant will place for a request, waiting alone. -/
def told (s : State) (i : Instr) : Option Answer :=
  (after i (asking s i)).bind (fun t => t.posting.bind (fun p => p.answer))

/-- The result of a grant for a request, waiting alone. -/
def result (s : State) (i : Instr) : Option Result := (told s i).map (fun a => a.result)

/-- What a grant's change-set holds, for a request waiting alone. -/
def change (s : State) (i : Instr) : Option Draft :=
  (after i (asking s i)).bind (fun t => t.posting.map (fun p => p.change))

/-- What the grant of an internal posting's change-set holds. -/
def internalChange (s : State) (i : Instr) : Option Draft :=
  (after i s).bind (fun t => t.posting.map (fun p => p.change))

/-- The response a read gets, waiting alone. -/
def answered (s : State) (i : Instr) : Option Answer :=
  (after i (asking s i)).bind (fun t => t.port.delivery.head?.map (fun a => a.answer))

/-- A merchant that trades, with a tolerance of 2,000 and no partial approval. -/
def trader : Merchant :=
  { unenrolledMerchant with
    state := .enrolled
    settings := { select := .a, partialAllowed := false, tolerance := 2000, salesPermitted := true,
                  refundsPermitted := true } }

/-- An ACTIVE card of merchant 12. -/
def card (x a : Nat) : Card := issuedCard x 12 a 0 900000

/-- Card 101 of worked sequence 3.11. -/
def card101 : Card := { card 101 12000 with held := 4000, openHolds := 1 }

/-- Card Y of worked sequence 4.13. -/
def card103 : Card :=
  { card 103 0 with state := .closing, held := 1500, openHolds := 1, retireReason := some .closed }

/-- A RETIRED card. -/
def card104 : Card := { card 104 0 with state := .retired, retireReason := some .expired, retiredAt := some 950000 }

/-- A card LOCKED by the host. -/
def card105 : Card := { card 105 250000 with state := .locked, locks := { host := true, velocity := false } }

/-- Hold 13 of worked sequence 4.13, of merchant 40. -/
def hold13 : Hold :=
  { id := 13, slot := 103, merchant := 40, amount := 1500, tolerance := 0, createdAt := 990000, deadline := 1050000 }

/-- Hold 517 of worked sequence 3.11. -/
def hold517 : Hold :=
  { id := 517, slot := 101, merchant := 40, amount := 4000, tolerance := 2000, createdAt := 990000, deadline := 1060000 }

/-- A mall at 1,040,000: five cards, two holds, merchants 0, 12 and 40; outstanding 2,000,000 and merchant 0's K 35,000. -/
def mall : State :=
  { State.reset with
    clock := { state := .set, value := 1040000, dividerRunning := true }
    records := { deliveredRecords with
      directory := [(101, .used 101), (102, .used 102), (103, .used 103), (104, .used 104), (105, .used 105)]
      occupancy := 5
      cards := [(101, card101), (102, card 102 300), (103, card103), (104, card104), (105, card105)]
      holds := [hold13, hold517]
      holdIdCounter := 518
      merchants := [(0, deliveredDesk), (12, trader), (40, { trader with openHolds := 2 })]
      openBank := { deliveredBank with entries := [(0, { zeroEntry with k := 35000 })] }
      totals := { deliveredRecords.totals with outstanding := 2000000, floor := 1000000 } } }

/-- The mall with a card's record replaced. -/
def withCard (s : State) (j : Nat) (c : Card) : State :=
  withRecords s (fun r => { r with cards := tableInsert r.cards j c })

/-- The mall with a merchant's record replaced. -/
def withMerchant (s : State) (m : Nat) (x : Merchant) : State :=
  withRecords s (fun r => { r with merchants := tablePut unenrolledMerchant r.merchants m x })

/-- The mall with a merchant's open entry replaced. -/
def withEntry (s : State) (m : Nat) (e : Entry) : State :=
  withRecords s (fun r => { r with openBank := { r.openBank with entries := tablePut zeroEntry r.openBank.entries m e } })

/-- The mall at another time. -/
def at' (s : State) (t : Nat) : State := { s with clock := { s.clock with value := t } }

/-- The fee schedule of 8.7. -/
def threeTiers : Schedule :=
  { tiers := 3, t1 := 500000, t2 := 2000000, t3 := 0, c1 := 1966, c2 := 1638, c3 := 1311, c4 := 0, allowance := 655 }

/-- The mall with period 5 closed as in 7.8, the steps at a merchant. -/
def computing (next : Nat) : State :=
  withRecords mall (fun r => { r with
    closingBank := { deliveredBank with
      period := 5, state := .computing, closedAt := some 1030000, closedOutstanding := some 2000000,
      nextMerchant := some next, scheduleA := threeTiers
      entries := [(0, { zeroEntry with s := 20000, k := 42000, captured := some .a }),
                  (17, { zeroEntry with r := 2345678, f := 45678, s := 120000, captured := some .a }),
                  (23, { zeroEntry with r := 10000, f := 40000, dIn := 5000, captured := some .a })] }
    totals := { r.totals with openPeriod := 6 } })

/-- The mall with period 5's statements ready. -/
def ready : State :=
  withRecords (computing 512) (fun r => { r with closingBank := { r.closingBank with state := .ready } })

/-- The smallest posting in flight, serving the slot of a request. -/
def flight (s : State) (i : Instr) : State := (after i (asking s i)).getD s

/-- A reading of the supply. -/
def volts (mv ms : Nat) : SupplyReading := { vdd := mv, ms := ms }

/-! WellFormed refuses an ill-formed command of each kind -/

theorem test_wellformed_refuses_serials :
    [Instr.cardIssue 0 1 1 1, .cardReload 0 1 1, .cardInquire 0 0, .cardLock 0, .cardUnlock 0, .cardRetire 0 .cashOut,
      .cardTransfer 0 1, .cardTransfer 1 0, .cardPurge 0, .redeem 0 1 1, .holdPlace 0 1 1 1, .refund 0 1 1,
      .conditionsClearCard 0, .cardLock (2 ^ 64)].all (fun i => !WellFormed i) = true := by decide +kernel

theorem test_wellformed_refuses_merchants :
    [Instr.cardIssue 1 512 1 1, .cardReload 1 512 1, .redeem 1 512 1, .holdPlace 1 512 1 1, .holdComplete 1 512 1,
      .holdVoid 1 512, .refund 1 512 1, .merchantEnrol 512 defaultSettings, .merchantUpdate 512 defaultSettings,
      .merchantSuspend 512, .merchantResume 512, .merchantWithdraw 512, .merchantWithdraw 0, .merchantInquire 512 0,
      .statementRead 512 0, .conditionsClearMerchant 512, .conditionScan .merchant 512].all
      (fun i => !WellFormed i) = true := by decide +kernel

theorem test_wellformed_refuses_amounts :
    [Instr.cardIssue 1 1 0 1, .cardReload 1 1 0, .redeem 1 1 0, .holdPlace 1 1 0 1, .holdComplete 1 1 0, .refund 1 1 0,
      .redeem 1 1 (2 ^ 32), .cardIssue 1 1 1 (2 ^ 32), .holdPlace 1 1 1 (2 ^ 32), .clockSet (2 ^ 32)].all
      (fun i => !WellFormed i) = true := by decide +kernel

theorem test_wellformed_refuses_ids_pages_and_kinds :
    [Instr.holdComplete 0 1 1, .holdVoid 0 1, .holdInquire 0 0, .holdVoid 65536 1, .cardInquire 1 2, .holdInquire 1 2,
      .merchantInquire 1 2, .statementRead 1 3, .totalsRead 4, .statementsRelease 8, .conditionScan .card 32768,
      .cardRetire 1 .transferred].all (fun i => !WellFormed i) = true := by decide +kernel

theorem test_wellformed_refuses_settings_and_limits :
    [Instr.merchantEnrol 1 { defaultSettings with tolerance := 5001 },
      .merchantUpdate 1 { defaultSettings with tolerance := 5001 },
      .scheduleStage .a { threeTiers with t1 := 2 ^ 40 }, .scheduleStage .a { threeTiers with c1 := 65536 },
      .scheduleStage .a { threeTiers with tiers := 256 },
      .limitsSetValue { cap := 2 ^ 32, holdMin := 1, holdMax := 1 },
      .limitsSetMonitor { deliveredLimits.monitor with refundFloor := 2 ^ 40 },
      .limitsSetDevice { deliveredLimits.device with guardTime := 256 },
      .limitsSetDevice { deliveredLimits.device with operate := 0b101001#6 }].all (fun i => !WellFormed i) = true := by
  decide +kernel

/-! Frames read from the layouts of R191 to R193 -/

/-- R182's own figure. -/
theorem test_crc_of_the_nine_digits :
    crcBytes [0x31#8, 0x32#8, 0x33#8, 0x34#8, 0x35#8, 0x36#8, 0x37#8, 0x38#8, 0x39#8] = 0x29B1#16 := by decide +kernel

/-- CARD_ISSUE: serial 2–9, merchant 10–11, amount 12–15, validity 16–19 (R191). -/
theorem test_decode_card_issue :
    decodeRequest 0x10 (padParams [0x00#8, 0x00#8, 0x00#8, 0x10#8, 0x00#8, 0x00#8, 0x7F#8, 0xFE#8, 0x00#8, 0x0C#8,
      0x00#8, 0x00#8, 0x3E#8, 0x80#8, 0x00#8, 0x01#8, 0x51#8, 0x80#8]) = .ok (.cardIssue 0x1000007FFE 12 16000 86400) := by
  decide +kernel

/-- HOLD_PLACE: lifetime 16–19 (R191). -/
theorem test_decode_hold_place :
    decodeRequest 0x21 (padParams [0x00#8, 0x00#8, 0x00#8, 0x00#8, 0x00#8, 0x00#8, 0x00#8, 0x65#8, 0x00#8, 0x28#8,
      0x00#8, 0x00#8, 0x0F#8, 0xA0#8, 0x00#8, 0x00#8, 0x0E#8, 0x10#8]) = .ok (.holdPlace 101 40 4000 3600) := by
  decide +kernel

/-- MERCHANT_ENROL: merchant, select, partial, tolerance, sales, refunds (R192). -/
theorem test_decode_merchant_enrol :
    decodeRequest 0x30 (padParams [0x01#8, 0xFF#8, 0x01#8, 0x01#8, 0x13#8, 0x88#8, 0x00#8, 0x01#8]) =
      .ok (.merchantEnrol 511 { select := .b, partialAllowed := true, tolerance := 5000, salesPermitted := false,
                                refundsPermitted := true }) := by decide +kernel

/-- SCHEDULE_STAGE: selector, tier count, three thresholds of five bytes, four rates, the allowance rate (R192). -/
theorem test_decode_schedule_stage :
    decodeRequest 0x40 (padParams [0x00#8, 0x03#8, 0x00#8, 0x00#8, 0x07#8, 0xA1#8, 0x20#8, 0x00#8, 0x00#8, 0x1E#8,
      0x84#8, 0x80#8, 0x00#8, 0x00#8, 0x00#8, 0x00#8, 0x00#8, 0x07#8, 0xAE#8, 0x06#8, 0x66#8, 0x05#8, 0x1F#8, 0x00#8,
      0x00#8, 0x02#8, 0x8F#8]) = .ok (.scheduleStage .a threeTiers) := by decide +kernel

/-- STATEMENT_READ of a page outside its encoding, and a release of period 8 (R6, R191). -/
theorem test_decode_refuses_page_and_period :
    decodeRequest 0x43 (padParams [0x00#8, 0x11#8, 0x03#8]) = .badParameter ∧
    decodeRequest 0x44 (padParams [0x08#8]) = .badParameter ∧
    decodeRequest 0x43 (padParams [0x00#8, 0x11#8, 0x02#8]) = .ok (.statementRead 17 2) := by decide +kernel

/-- CONDITIONS_CLEAR of scope CARD does not check the merchant; CONDITION_SCAN takes slot 32,767 (R160, R163). -/
theorem test_decode_conditions :
    decodeRequest 0x50 (padParams [0x03#8, 0xFF#8, 0xFF#8, 0x00#8, 0x00#8, 0x00#8, 0x00#8, 0x00#8, 0x00#8, 0x00#8,
      0x65#8]) = .ok (.conditionsClearCard 101) ∧
    decodeRequest 0x51 (padParams [0x01#8, 0x7F#8, 0xFF#8]) = .ok (.conditionScan .card 32767) := by decide +kernel

/-- CLOCK_SET and LIMITS_SET of the DEVICE group; bits of operate below 3 are not read (R190, R193). -/
theorem test_decode_clock_and_limits :
    decodeRequest 0x60 (padParams [0x00#8, 0x0F#8, 0x5F#8, 0x7C#8]) = .ok (.clockSet 1007484) ∧
    decodeRequest 0x62 (padParams [0x02#8, 0x01#8, 0x14#8, 0x01#8, 0x00#8, 0x01#8, 0x35#8, 0x60#8, 0xFF#8, 0x3F#8,
      0x2F#8]) = .ok (.limitsSetDevice
        { warning := .v295, guardTime := 20, alarmEnable := true, alarmTime := 79200, enable := 0xFF#8,
          report := 0b111111#6, operate := 0b101000#6 }) := by decide +kernel

/-- A code that no request has. -/
theorem test_decode_unknown : decodeRequest 0x18 (padParams []) = .unknown := by decide +kernel

/-! Steps of worked examples -/

/-- 1.7: the sets of steps 6, 7 and 10; only the last fires an alarm at 3,600. -/
theorem test_clock_set_of_the_restart :
    let s := withRecords State.reset (fun r => { r with
      totals := { r.totals with floor := 1000440 }
      limits := { r.limits with device := { r.limits.device with alarmEnable := true, alarmTime := 3600 } } })
    answered s (.clockSet 1000400) = some (answer .clockBehind (field 1 0 ++ field 4 0 ++ field 4 1000440)) ∧
    ((after (.clockSet 1007500) (asking s (.clockSet 1007500))).map (fun t => (t.clock.value, t.alarmPending))) =
      some (1007500, false) ∧
    (let u := { s with clock := { state := .set, value := 1007501, dividerRunning := true } }
     ((after (.clockSet 1094000) (asking u (.clockSet 1094000))).map (fun t => (t.clock.value, t.alarmPending))) =
      some (1094000, true)) := by decide +kernel

/-- 1.7, step 9: a set behind a clock that is SET. -/
theorem test_clock_set_behind_the_value :
    answered (at' mall 1007501) (.clockSet 1007490) =
      some (answer .clockBehind (field 1 1 ++ field 4 1007501 ++ field 4 1000000)) := by decide +kernel

/-- 7.8, step 1: the tick to 22:00 of day 99 fires the alarm; R8: a tick from 4,294,967,295 does nothing. -/
theorem test_tick_fires_the_alarm_and_holds_at_the_top :
    let s := withRecords (at' mall 8632799) (fun r => { r with
      limits := { r.limits with device := { r.limits.device with alarmEnable := true, alarmTime := 79200 } } })
    (after .tick s).map (fun t => (t.clock.value, t.alarmPending)) = some (8632800, true) ∧
    after .tick (at' mall 4294967295) = some (at' mall 4294967295) := by decide +kernel

/-- 4.13: the tick that makes hold 13 due gives the Expiry Unit its waiting request. -/
theorem test_tick_makes_a_hold_due :
    (after .tick (at' mall 1049999)).bind (fun t => t.expiryWaiting) = some 13 := by decide +kernel

/-- 2.7, steps 3 to 11: U is found behind the tombstones, Q is placed again in slot 32,767, and U's purge cleans slots 1
and 0. -/
theorem test_directory_across_the_top :
    let p := 0x1000007FFE
    let q := 0x2000007FFE
    let u := 0x5000007FFE
    let t := 0x4000000000
    let d7 := [(1, DirSlot.used u), (2, .used t), (32766, .used p)]
    let d7 := tablePut .empty (tablePut .empty d7 0 .vacated) 32767 .vacated
    lookup d7 u = { slot := some 1, free := some 32767 } ∧
    lookup d7 q = { slot := none, free := some 32767 } ∧
    vacate (vacate (tablePut .empty d7 32767 (.used q)) 2) 1 = [(32766, .used p), (32767, .used q)] ∧
    vacate (vacate d7 2) 1 = [(32766, .used p)] := by decide +kernel

/-- 2.8: the 33rd card of one home slot finds its window full. -/
theorem test_full_window :
    let dir := (List.range 32).map (fun n => (100 + n, DirSlot.used (100 + 32768 * n)))
    lookup dir (100 + 32768 * 32) = { slot := none, free := none } := by decide +kernel

/-- R34: an issue of 16,000 with a validity of a day. -/
theorem test_card_issue :
    told mall (.cardIssue 0x1000007FFE 12 16000 86400) =
      some (answer .ok (field 2 32766 ++ field 4 16000 ++ field 1 1 ++ field 4 1126400)) ∧
    (change mall (.cardIssue 0x1000007FFE 12 16000 86400)).map (fun d =>
      (d.records.totals.outstanding, (openEntry d.records 12).s, d.records.occupancy, d.records.totals.floor)) =
      some (2016000, 16000, 6, 1040000) := by decide +kernel

/-- R33: the order of the refusals of an issue. -/
theorem test_card_issue_refusals :
    result mall (.cardIssue 101 12 1000001 0) = some .capExceeded ∧
    result mall (.cardIssue 101 12 1000000 0) = some .cardExists ∧
    result mall (.cardIssue 101 13 1000001 0) = some .notEnrolled ∧
    result (withMerchant mall 12 { trader with salesBlocked := true, settings := { trader.settings with
      salesPermitted := false } }) (.cardIssue 101 12 1 0) = some .notPermitted := by decide +kernel

/-- R35: a reload credits the card; it meets the cap with held counted. -/
theorem test_card_reload :
    told mall (.cardReload 101 12 500) = some (answer .ok (field 4 12500 ++ field 4 4000)) ∧
    result mall (.cardReload 101 12 984001) = some .capExceeded ∧
    result mall (.cardReload 101 12 984000) = some .ok := by decide +kernel

/-- R36: an ACTIVE card gains HOST. -/
theorem test_card_lock :
    told mall (.cardLock 101) = some (answer .ok (field 1 1 ++ field 1 1)) ∧
    (change mall (.cardLock 105)).map (fun d => d.records.totals.floor) = some 1000000 := by decide +kernel

/-- R37: a card stays LOCKED while VELOCITY remains. -/
theorem test_card_unlock :
    told mall (.cardUnlock 105) = some (answer .ok (field 1 0 ++ field 1 0)) ∧
    told (withCard mall 105 { card105 with locks := { host := true, velocity := true } }) (.cardUnlock 105) =
      some (answer .ok (field 1 1 ++ field 1 2)) := by decide +kernel

/-- 3.11, step 1. -/
theorem test_card_retire_deferred :
    told mall (.cardRetire 101 .cashOut) = some (answer .deferred (field 4 12000 ++ field 4 4000 ++ field 1 1)) ∧
    (change mall (.cardRetire 101 .cashOut)).map (fun d => d.records.totals.outstanding) = some 2000000 := by
  decide +kernel

/-- R41: a retirement as EXPIRED moves the value into retired value. -/
theorem test_card_retire_expired :
    (change mall (.cardRetire 102 .expired)).map (fun d =>
      (d.records.totals.outstanding, d.records.totals.retiredValue, d.records.openBank.retiredInPeriod)) =
      some (1999700, 300, 300) := by decide +kernel

/-- 3.12, step 5, with valid until copied; step 3 exceeds the cap. -/
theorem test_card_transfer :
    let s := withCard mall 105 { card105 with validUntil := some 9000000 }
    (change s (.cardTransfer 105 106)).map (fun d => (tableFind d.records.cards 106).map (fun c =>
      (c.available, c.issuer, c.validUntil))) = some (some (250000, 0, some 9000000)) ∧
    result (withRecords s (fun r => { r with limits := { r.limits with value := { r.limits.value with cap := 200000 } } }))
      (.cardTransfer 105 102) = some .capExceeded := by decide +kernel

/-- R43: the refusals that concern the source, in their order. -/
theorem test_card_transfer_refusals :
    told mall (.cardTransfer 101 101) = some (answer .badParameter (field 1 0)) ∧
    told mall (.cardTransfer 101 102) = some (answer .holdsOpen (field 1 0)) ∧
    told mall (.cardTransfer 102 104) = some (answer .cardRetired (field 1 1)) := by decide +kernel

/-- R46: only a RETIRED card is purged. -/
theorem test_card_purge :
    told mall (.cardPurge 104) = some (answer .ok (field 2 104)) ∧
    (change mall (.cardPurge 104)).map (fun d => (d.records.occupancy, slotState d.records.directory 104)) =
      some (4, .vacated) ∧
    result mall (.cardPurge 101) = some .notRetired := by decide +kernel

/-- R56: held value is never drawn on. -/
theorem test_redeem :
    told mall (.redeem 101 12 12000) =
      some (answer .ok (field 4 12000 ++ field 4 0 ++ field 4 4000 ++ field 1 0)) ∧
    result mall (.redeem 101 12 12001) = some .insufficient ∧
    told mall (.redeem 101 0 12001) =
      some (answer .partialApproval (field 4 12000 ++ field 4 0 ++ field 4 4000 ++ field 1 0)) := by decide +kernel

/-- R75's example: the 21st spend of the window latches VELOCITY and locks the card; a new window does not. -/
theorem test_redeem_latches_velocity :
    let s := withCard mall 102 { card 102 300 with windowStart := 1038000, velocityCount := 20 }
    told s (.redeem 102 12 100) = some (answer .ok (field 4 100 ++ field 4 200 ++ field 4 0 ++ field 1 1)) ∧
    (change s (.redeem 102 12 100)).map (fun d => d.events) = some 0x40#8 ∧
    told (at' s 1041600) (.redeem 102 12 100) =
      some (answer .ok (field 4 100 ++ field 4 200 ++ field 4 0 ++ field 1 0)) := by decide +kernel

/-- R58, R59: the lifetime is clamped to the minimum of 60; the entry stands in deadline order. -/
theorem test_hold_place :
    told mall (.holdPlace 102 12 300 5) = some (answer .ok (field 2 518 ++ field 4 300 ++ field 4 1040060 ++
      field 4 0 ++ field 4 300 ++ field 1 0)) ∧
    (change mall (.holdPlace 102 12 300 15000)).map (fun d => d.records.holds.map (fun h => h.id)) =
      some [13, 518, 517] := by decide +kernel

/-- R54's example: 65,534 and 1 are in use. -/
theorem test_hold_ids :
    let holds := [{ hold13 with id := 65534 }, { hold13 with id := 1 }]
    allocateHoldId holds 65534 = 65535 ∧ nextHoldId 65535 = 1 ∧ allocateHoldId holds 1 = 2 ∧ nextHoldId 2 = 3 := by
  decide +kernel

/-- 3.11, step 4: the completion of 4,700 ends the CLOSING card's last hold and cashes it out. -/
theorem test_hold_complete_of_a_closing_card :
    let s := withCard mall 101 { card101 with state := .closing, retireReason := some .cashOut }
    (change s (.holdComplete 517 40 4700)).map (fun d =>
      (d.records.totals.outstanding, (openEntry d.records 40).r, (openEntry d.records 0).k)) =
      some (1984000, 4700, 46300) ∧
    (told s (.holdComplete 517 40 4700)).map (fun a => a.body.take 13) =
      some (field 4 4700 ++ field 4 0 ++ field 4 0 ++ field 1 3) := by decide +kernel

/-- 4.12: PARTIAL 4,300 with partial approval, INSUFFICIENT without, and OVER_TOLERANCE at 4,801. -/
theorem test_hold_complete_beyond_the_hold :
    let s := withCard mall 101 { card101 with available := 300 }
    let p := withMerchant s 40 { trader with openHolds := 2, settings := { trader.settings with partialAllowed := true } }
    told p (.holdComplete 517 40 4700) = some (answer .partialApproval (field 4 4300 ++ field 4 0 ++ field 4 0 ++
      field 1 0 ++ field 5 4800)) ∧
    told s (.holdComplete 517 40 4700) = some (answer .insufficient (field 13 0 ++ field 5 4800)) ∧
    result s (.holdComplete 517 40 4300) = some .ok ∧
    told s (.holdComplete 517 40 4801) = some (answer .overTolerance (field 13 0 ++ field 5 4800)) ∧
    told s (.holdComplete 517 40 3800) = some (answer .ok (field 4 3800 ++ field 4 500 ++ field 4 0 ++ field 1 0 ++
      field 5 4800)) := by decide +kernel

/-- 4.13, step 1, as a void: the due hold of the CLOSING card is released and the card finalised as CLOSED. -/
theorem test_hold_void_at_the_deadline :
    told (at' mall 1055000) (.holdVoid 13 40) =
      some (answer .holdExpired (field 4 1500 ++ field 4 0 ++ field 4 0 ++ field 1 3)) ∧
    (change (at' mall 1055000) (.holdVoid 13 40)).map (fun d =>
      (d.records.totals.outstanding, d.records.totals.retiredValue, d.records.totals.floor, d.events)) =
      some (1998500, 1500, 1055000, 0x02#8) ∧
    result mall (.holdVoid 13 12) = some .wrongMerchant := by decide +kernel

/-- 4.13, step 2, for hold 517: the release gives back 4,000 and moves no outstanding. 5.6: after Settlement a waiting Link
request goes first, after Link the Expiry Unit does. -/
theorem test_expiry_posting :
    let s := { asking (at' mall 1060000) (.cardLock 102) with expiryWaiting := some 517 }
    internalChange s .expiryPosting = none ∧
    (internalChange { s with lastKind := .link } .expiryPosting).map (fun d =>
      ((tableFind d.records.cards 101).map (fun c => (c.available, c.held)), d.records.totals.outstanding, d.events)) =
      some (some (16000, 0), 2000000, 0x02#8) := by decide +kernel

/-- 4.12's limit, read back by HOLD_INQUIRE. -/
theorem test_hold_inquire :
    answered mall (.holdInquire 517 0) = some (answer .ok (field 2 517 ++ field 2 40 ++ field 4 4000 ++ field 2 2000 ++
      field 5 4800 ++ field 4 990000 ++ field 4 1060000)) ∧
    answered mall (.holdInquire 9 0) = some (refuse .noHold) := by decide +kernel

/-- R48: a card's page 0; a serial not found. -/
theorem test_card_inquire :
    answered mall (.cardInquire 101 0) = some (answer .ok (field 2 101 ++ field 8 101 ++ field 1 0 ++ field 1 0 ++
      field 4 12000 ++ field 4 4000 ++ field 1 1 ++ field 2 12 ++ field 1 0 ++ field 1 0)) ∧
    answered mall (.cardInquire 99 0) = some (refuse .noCard) := by decide +kernel

/-- 9.10, steps 2 and 3: the refund starts the qualification, the redemption ends it. -/
theorem test_refund_ratio_qualifies :
    let s := fun f => withMerchant (withEntry (at' mall 2000100) 88 { zeroEntry with r := 100000, f := f }) 88 trader
    let u := withCard { s 30000 with qual := [{ merchant := 88, due := 2001000 }] } 102 (card 102 30000)
    (change (s 20000) (.refund 101 88 10000)).map (fun d => d.qual) = some [{ merchant := 88, due := 2001000 }] ∧
    told (s 20000) (.refund 101 88 10000) = some (answer .ok (field 4 22000 ++ field 4 4000)) ∧
    (change u (.redeem 102 88 30000)).map (fun d => (d.qual, (openEntry d.records 88).r)) = some ([], 130000) := by
  decide +kernel

/-- 9.10, step 6: the latch blocks refunds and writes the floor; step 7: the refund is refused. -/
theorem test_latch_posting :
    let s := withMerchant (withEntry (at' mall 2001400) 88 { zeroEntry with r := 130000, f := 35000 }) 88 trader
    let s := { s with qual := [{ merchant := 88, due := 2001400 }] }
    (internalChange s .latchPosting).map (fun d =>
      ((merchantOf d.records 88).refundsBlocked, d.qual, d.events, d.records.totals.floor)) =
      some (true, [], 0x40#8, 2001400) ∧
    (internalChange (at' s 2001399) .latchPosting) = none ∧
    result (withMerchant s 88 { trader with refundLatched := true, refundsBlocked := true }) (.refund 101 88 1000) =
      some .refundsBlocked := by decide +kernel

/-- R104 to R106, R115: only an UNENROLLED merchant is enrolled, and the refusal names it; an update keeps the state. -/
theorem test_merchant_enrol_and_update :
    result mall (.merchantEnrol 210 trader.settings) = some .ok ∧
    told mall (.merchantEnrol 12 trader.settings) = some (answer .alreadyEnrolled (field 2 12)) ∧
    (change (withMerchant mall 12 { trader with state := .suspended }) (.merchantUpdate 12 defaultSettings)).map
      (fun d => merchantOf d.records 12) =
      some { trader with state := .suspended, settings := defaultSettings } := by decide +kernel

/-- R107, R108: suspending and resuming; a state already held leaves the floor. -/
theorem test_merchant_suspend_and_resume :
    told mall (.merchantSuspend 12) = some (answer .ok (field 2 12 ++ field 1 2)) ∧
    told mall (.merchantResume 12) = some (answer .ok (field 2 12 ++ field 1 1)) ∧
    (change mall (.merchantResume 12)).map (fun d => d.records.totals.floor) = some 1000000 := by decide +kernel

/-- 6.9, steps 1 and 4: HOLDS_OPEN; a withdrawal records the open period. -/
theorem test_merchant_withdraw :
    told mall (.merchantWithdraw 40) = some (answer .holdsOpen (field 2 40 ++ field 1 0 ++ field 2 2)) ∧
    told (computing 17) (.merchantWithdraw 12) = some (answer .ok (field 2 12 ++ field 1 6 ++ field 2 0)) := by
  decide +kernel

/-- R113: page 1 carries R, F, S and K. -/
theorem test_merchant_inquire :
    answered mall (.merchantInquire 0 1) =
      some (answer .ok (field 2 0 ++ field 6 0 ++ field 6 0 ++ field 6 0 ++ field 6 35000)) := by decide +kernel

/-- R122: thresholds must rise; R121: an unused rate is stored as 0. -/
theorem test_schedule_stage :
    result mall (.scheduleStage .a { threeTiers with t2 := 500000 }) = some .scheduleInvalid ∧
    (change mall (.scheduleStage .b { threeTiers with t3 := 9, c4 := 9 })).map (fun d => d.records.stagedB) =
      some threeTiers := by decide +kernel

/-- R123: the open schedule; no closing bank. -/
theorem test_schedule_read :
    answered (computing 17) (.scheduleRead .a .closing) = some (answer .ok (field 1 3 ++ field 5 500000 ++
      field 5 2000000 ++ field 5 0 ++ field 2 1966 ++ field 2 1638 ++ field 2 1311 ++ field 2 0 ++ field 2 655)) ∧
    answered mall (.scheduleRead .a .closing) = some (refuse .noStatement) := by decide +kernel

/-- 6.9, step 3, and 7.8, step 3: a close, and a close while the bank is COMPUTING. -/
theorem test_period_close :
    told mall .periodClose = some (answer .ok (field 1 0 ++ field 1 1 ++ field 4 1040000 ++ field 6 2000000)) ∧
    told (computing 0) .periodClose = some (answer .statementPending (field 1 5 ++ field 1 2)) ∧
    (change mall .periodClose).map (fun d => ((closingEntry d.records 40).captured, (closingEntry d.records 13).captured,
      d.records.closingBank.nextMerchant, d.events)) = some (some .a, none, some 0, 0x04#8) := by decide +kernel

/-- 7.8, steps 2 and 8: the alarm cuts over an ABSENT bank and defers on a READY one. -/
theorem test_alarm_cutover :
    (internalChange { mall with alarmPending := true } .alarmCutover).map (fun d =>
      (d.records.closingBank.closedAt, d.records.totals.openPeriod, d.events)) = some (some 1040000, 1, 0x04#8) ∧
    (internalChange { ready with alarmPending := true } .alarmCutover).map (fun d =>
      (d.records.totals.closeDeferred, d.records.totals.floor, d.events)) = some (true, 1040000, 0x10#8) := by
  decide +kernel

/-- 8.7 and 7.8, step 5: merchant 17's statement, and the next merchant. -/
theorem test_statement_step :
    (internalChange (computing 17) .statementStep).map (fun d => (closingEntry d.records 17).statement) =
      some (some { base := 2300000, commission := 58492, allowance := 1199, net := 2122707, payout := 2122707, dOut := 0,
                   saturated := false }) ∧
    (internalChange (computing 17) .statementStep).map (fun d => d.records.closingBank.nextMerchant) =
      some (some 23) := by decide +kernel

/-- 7.8, steps 4 and 6: merchant 0's payout of 22,200; merchant 23's carry of 35,000, and the bank READY. -/
theorem test_statement_step_ends :
    (internalChange (computing 0) .statementStep).map (fun d =>
      ((closingEntry d.records 0).statement.map (fun x => x.payout))) = some (some 22200) ∧
    (internalChange (computing 23) .statementStep).map (fun d =>
      ((openEntry d.records 23).dIn, d.records.closingBank.nextMerchant, d.records.closingBank.state, d.events)) =
      some (35000, some 512, .ready, 0x08#8) := by decide +kernel

/-- R132, R152: the carry of 35,000 latches DEFICIT at a limit of 34,999 and blocks nothing with operate off; not at 35,000. -/
theorem test_statement_step_latches_deficit :
    let s := fun n => withRecords (computing 23) (fun r => { r with
      limits := { r.limits with monitor := { r.limits.monitor with deficitLimit := n } } })
    let seen := fun (d : Draft) => ((merchantOf d.records 23).deficitLatched, (merchantOf d.records 23).salesBlocked, d.events)
    (internalChange (s 34999) .statementStep).map seen = some (true, false, 0x48#8) ∧
    (internalChange (s 35000) .statementStep).map seen = some (false, false, 0x08#8) := by decide +kernel

/-- 8.8's second period, 8.9 and 8.10. -/
theorem test_statement_figures :
    (computeStatement threeTiers { zeroEntry with r := 50000, dIn := 35000 }).net = 13500 ∧
    (computeStatement threeTiers { zeroEntry with r := 500001 }).commission = 14999 ∧
    (computeStatement { deliveredSchedule with c1 := 1638 } { zeroEntry with r := 16384 }).commission = 410 ∧
    computeStatement deliveredSchedule
      { zeroEntry with f := 100000000000000, s := 100000000000000, k := 90000000000000 } =
      { base := 0, commission := 0, allowance := 0, net := -50737488355327, payout := 0, dOut := 50737488355327,
        saturated := true } := by decide +kernel

/-- R134: NOT_READY while COMPUTING; 8.7's pages once a statement stands. -/
theorem test_statement_read :
    let st := computeStatement threeTiers { zeroEntry with r := 2345678, f := 45678, s := 120000 }
    let s := withRecords ready (fun r => { r with closingBank := { r.closingBank with entries :=
      [(17, { zeroEntry with r := 2345678, f := 45678, s := 120000, captured := some .a, statement := some st })] } })
    answered (computing 17) (.statementRead 17 0) = some (refuse .notReady) ∧
    answered s (.statementRead 17 1) = some (answer .ok (field 1 5 ++ field 6 2300000 ++ field 6 58492 ++ field 6 1199 ++
      field 6 2122707 ++ field 1 0)) ∧
    answered s (.statementRead 12 1) = some (refuse .noStatement) := by decide +kernel

/-- 7.8, steps 9 and 10: the wrong period; the deferred cutover of a release. -/
theorem test_statements_release :
    let s := withRecords ready (fun r => { r with totals := { r.totals with closeDeferred := true } })
    told s (.statementsRelease 6) = some (answer .wrongPeriod (field 1 5)) ∧
    told s (.statementsRelease 5) = some (answer .ok (field 1 5 ++ field 2 0 ++ field 1 1 ++ field 1 7)) := by
  decide +kernel

/-- 6.9, step 11: the withdrawn merchant returns and its carry is written off. -/
theorem test_statements_release_returns :
    let s := withEntry (withMerchant ready 210 { trader with state := .withdrawn, withdrawnIn := some 5 }) 210
      { zeroEntry with dIn := 12000 }
    (change s (.statementsRelease 5)).map (fun d => (merchantOf d.records 210, openEntry d.records 210)) =
      some (unenrolledMerchant, zeroEntry) ∧
    (told s (.statementsRelease 5)).map (fun a => a.body) = some (field 1 5 ++ field 2 1 ++ field 1 0 ++ field 1 6) := by
  decide +kernel

/-- R95: page 0; R117: the closing pages of an ABSENT bank. -/
theorem test_totals_read :
    answered mall (.totalsRead 0) = some (answer .ok (field 6 2000000 ++ field 6 0 ++ field 1 0 ++ field 1 0 ++ field 1 0 ++
      field 4 1000000 ++ field 2 5 ++ field 2 2)) ∧
    answered mall (.totalsRead 2) = some (answer .ok (field 1 7 ++ field 1 0 ++ field 14 0)) := by decide +kernel

/-- 9.10, steps 8 and 10. -/
theorem test_conditions_clear_merchant :
    let latched := { trader with refundLatched := true, refundsBlocked := true }
    let s := withMerchant (withEntry mall 88 { zeroEntry with r := 130000, f := 35000 }) 88 latched
    told s (.conditionsClearMerchant 88) = some (answer .ok (field 2 0 ++ field 2 1)) ∧
    told (withEntry s 88 { zeroEntry with r := 150000, f := 35000 }) (.conditionsClearMerchant 88) =
      some (answer .ok (field 2 1 ++ field 2 0)) ∧
    told (withEntry s 88 { zeroEntry with r := 150000, f := 35000 }) .conditionsClearAllMerchants =
      some (answer .ok (field 2 1 ++ field 2 0)) := by decide +kernel

/-- R161: a cleared VELOCITY unlocks a card that has no HOST cause. -/
theorem test_conditions_clear_card :
    let c := { card 102 300 with
      state := .locked, locks := { host := false, velocity := true }, velocityLatched := true, velocityCount := 21,
      windowStart := 1038000 }
    told (withCard mall 102 c) (.conditionsClearCard 102) = some (answer .ok (field 2 0 ++ field 2 1)) ∧
    (change (at' (withCard mall 102 c) 1041600) (.conditionsClearCard 102)).map (fun d =>
      (tableFind d.records.cards 102).map (fun c => (c.state, c.velocityLatched))) = some (some (.active, false)) := by
  decide +kernel

/-- R160: a DEVICE clear judges SUPPLY_LOW at its end: live there, it stays latched. -/
theorem test_conditions_clear_device :
    let s := { mall with supplyLow := { live := false, latched := true } }
    let t := flight s .conditionsClearDevice
    (after (.postingEnd (volts 3300 0)) t).map (fun u => u.supplyLow) = some { live := false, latched := false } ∧
    (after (.postingEnd (volts 2900 0)) { t with supplyLow := { live := true, latched := true } }).map
      (fun u => u.supplyLow) = some { live := true, latched := true } := by decide +kernel

/-- R163: the scan finds the lowest number at or above its start and does not wrap. -/
theorem test_condition_scan :
    let s := withMerchant mall 12 { trader with refundLatched := true, refundsBlocked := true }
    answered s (.conditionScan .merchant 12) =
      some (answer .ok (field 1 1 ++ field 2 12 ++ field 1 (2 + 4 + 8 + 32) ++ field 1 1)) ∧
    answered s (.conditionScan .merchant 13) = some (answer .ok (field 1 0)) := by decide +kernel

/-- R166's example: HOLD_EXPIRED, STATEMENTS_READY and PARK_CHANGED set, STATEMENTS_READY disabled. -/
theorem test_events_read :
    let s := withRecords { mall with events := 0x0B#8 } (fun r => { r with
      limits := { r.limits with device := { r.limits.device with enable := 0xF7#8 } } })
    answered s .eventsRead = some (answer .ok (field 1 0x0B ++ field 1 0xF7 ++ field 1 0x03 ++ field 1 0x02 ++ field 1 0 ++
      field 1 1)) := by decide +kernel

/-- 9.10, step 11: the clear lets nATTN go high. -/
theorem test_events_clear :
    answered { mall with events := 0x40#8 } (.eventsClear 0x40#8) = some (answer .ok (field 1 0 ++ field 1 0)) ∧
    answered { mall with events := 0x42#8 } (.eventsClear 0x40#8) = some (answer .ok (field 1 2 ++ field 1 1)) := by
  decide +kernel

/-- 1.7, step 5. -/
theorem test_clock_read :
    answered (withRecords State.reset (fun r => { r with totals := { r.totals with floor := 1000440 } })) .clockRead =
      some (answer .ok (field 1 0 ++ field 4 0 ++ field 4 1000440)) := by decide +kernel

/-- 3.12, step 4; R58: the minimum may not exceed the maximum. -/
theorem test_limits_set_value :
    told mall (.limitsSetValue { cap := 300000, holdMin := 60, holdMax := 604800 }) =
      some (answer .ok (field 1 0 ++ field 4 300000 ++ field 4 60 ++ field 4 604800)) ∧
    result mall (.limitsSetValue { cap := 300000, holdMin := 61, holdMax := 60 }) = some .badParameter := by
  decide +kernel

/-- R26, R154: a watermark lowered to the occupancy latches DIRECTORY_HIGH. -/
theorem test_limits_set_monitor :
    (change mall (.limitsSetMonitor { deliveredLimits.monitor with dirWatermark := 5 })).map (fun d =>
      (d.dirHigh, d.holdsHigh, d.events)) =
      some ({ live := true, latched := true }, { live := false, latched := false }, 0x40#8) ∧
    result mall (.limitsSetMonitor { deliveredLimits.monitor with velocityLimit := 255 }) = some .badParameter := by
  decide +kernel

/-- R176: a raised warning level takes the device into LOW at the posting's end, with the new G. -/
theorem test_limits_set_device :
    let i := Instr.limitsSetDevice { deliveredLimits.device with warning := .v300, guardTime := 30 }
    (after (.postingEnd (volts 2990 500)) (flight mall i)).map (fun t => (t.supply, t.guard)) =
      some (some .low, some { startedAt := 500, span := 30 }) ∧
    (after (.postingEnd (volts 3000 500)) (flight mall i)).map (fun t => t.supply) = some (some .normal) ∧
    result mall (.limitsSetDevice { deliveredLimits.device with guardTime := 0 }) = some .badParameter := by decide +kernel

/-- R193: the delivered DEVICE group. -/
theorem test_limits_read :
    answered mall (.limitsRead .device) = some (answer .ok (field 1 2 ++ field 1 1 ++ field 1 20 ++ field 1 0 ++ field 4 0 ++
      field 1 255 ++ field 1 63 ++ field 1 40)) := by decide +kernel

/-- An answered slot. -/
def answeredSlot (place : Nat) : Answered :=
  { slot := { place := place, code := 0x61#8, tag := 0x33#8, params := padParams [], serials := [] }
    answer := answer .ok (field 1 1 ++ field 4 7 ++ field 4 0) }

/-- Fourteen slots ACCEPTED and two ANSWERED, as 11.6 starts. -/
def fullPort : State :=
  { mall with
    events := 0x00#8
    port := { mall.port with
      accepted := (List.range 14).map (fun n =>
        { place := n + 2, code := 0x13#8, tag := 0#8, params := padParams (beBytes 8 101), serials := [101] })
      delivery := [answeredSlot 0, answeredSlot 1]
      nextPlace := 16 } }

/-- A frame in progress that offers a slot. -/
def inFrame (s : State) (place : Option Nat) : State :=
  { s with nSelLow := true, port := { s.port with frame := some 0x60#8, offered := place } }

/-- 11.6, the status bits at the starts of frames 1, 2 and 5. -/
theorem test_nsel_fall :
    (after .nselFall fullPort).map (fun t => (t.port.frame, t.port.offered)) = some (some 0x60#8, some 0) ∧
    (after .nselFall { fullPort with port := { fullPort.port with
      accepted := fullPort.port.accepted ++ fullPort.port.accepted.take 1, delivery := [answeredSlot 1] } }).map
      (fun t => t.port.frame) = some (some 0x20#8) ∧
    (after .nselFall { fullPort with port := { fullPort.port with
      accepted := fullPort.port.accepted ++ fullPort.port.accepted.take 1, delivery := [answeredSlot 1],
      lastNotTaken := true } }).map (fun t => t.port.frame) = some (some 0x28#8) := by decide +kernel

/-- 11.6, the ends of frames 1, 2 and 4. -/
theorem test_nsel_rise :
    let full := { fullPort with port := { fullPort.port with
      accepted := fullPort.port.accepted ++ fullPort.port.accepted.take 2, delivery := [] } }
    (after (.nselRise (requestFrame 1#8 (.refund 102 12 5))) (inFrame fullPort (some 0))).map (fun t =>
      (t.port.delivery, t.port.accepted.length)) = some ([answeredSlot 1], 15) ∧
    (after (.nselRise (List.replicate 248 false)) (inFrame fullPort (some 0))).map (fun t =>
      (t.port.delivery, t.port.lastRejected)) = some ([answeredSlot 0, answeredSlot 1], true) ∧
    (after (.nselRise (requestFrame 1#8 (.holdInquire 517 0))) (inFrame full none)).map (fun t =>
      (t.port.lastNotTaken, t.port.accepted.length)) = some (true, 16) := by decide +kernel

/-- R181, R190: the outbound bytes of a response: tag, code, result, fields. -/
theorem test_outbound_frame :
    let f := inFrame fullPort (some 0)
    (outboundFrame f).map (fun b => b.take 13) =
      some [0x60#8, 0x33#8, 0x61#8, 0x01#8, 0x01#8, 0x00#8, 0x00#8, 0x00#8, 0x07#8, 0x00#8, 0x00#8, 0x00#8, 0x00#8] ∧
    (outboundFrame f).map List.length = some 32 := by decide +kernel

/-- R92, R93, R83: a request accepted while UNSET, while PARKED, and with an amount of 0. -/
theorem test_answers_at_acceptance :
    let rise := fun s i => (after (.nselRise (requestFrame 1#8 i)) (inFrame s none)).bind (fun t =>
      t.port.delivery.head?.map (fun a => a.answer.result))
    rise State.reset (.cardLock 101) = some .clockUnset ∧
    rise { mall with supply := some .parked } (.cardLock 101) = some .parked ∧
    rise { mall with supply := some .parked } (.redeem 101 12 0) = some .badAmount ∧
    rise mall (.cardLock 101) = none := by decide +kernel

/-- R115: a merchant request answered PARKED carries its merchant number, in range or not. -/
theorem test_parked_merchant_request :
    refuseSlot (slotOf mall.records (.merchantSuspend 511)) .parked = answer .parked (field 2 511) ∧
    refuseSlot (slotOf mall.records (.cardLock 101)) .parked = refuse .parked := by decide +kernel

/-- R81: the end of a link posting shows its changes and places its response; the read behind it sees them. -/
theorem test_posting_end_serves_the_read :
    let s := asking mall (.cardLock 101)
    let read : Slot := { place := 8, code := 0x12#8, tag := 0#8, params := padParams (beBytes 8 101), serials := [101] }
    let s := { s with port := { s.port with accepted := s.port.accepted ++ [read], nextPlace := 9 } }
    (after (.postingEnd (volts 3300 0)) ((after (.cardLock 101) s).getD s)).map (fun t =>
      t.port.delivery.map (fun a => (a.slot.place, a.answer.result))) = some [(7, .ok), (8, .ok)] ∧
    (after (.cardInquire 101 0) s) = some s := by decide +kernel

/-- R86: a TOTALS_READ accepted while a posting is in flight, with nothing ahead of it, answers as before that posting's end,
and a CARD_LOCK accepted behind a CLOCK_SET goes on with the clock SET, whatever row comes next. -/
theorem test_eligible_read_is_served_first :
    let s := inFrame (flight mall .periodClose) none
    let t := (after (.nselRise (requestFrame 1#8 (.totalsRead 0))) s).getD s
    let u := inFrame State.reset none
    let v := (after (.nselRise (requestFrame 1#8 (.clockSet 7))) u).getD u
    let w := inFrame ((after .nselFall v).getD v) none
    (after (.postingEnd (volts 3300 0)) t).map (fun e =>
      (e.port.delivery.map (fun a => a.answer), e.records.totals.openPeriod)) =
      some ([readTotals 0 mall, answer .ok (field 1 0 ++ field 1 1 ++ field 4 1040000 ++ posField 2000000)], 1) ∧
    (after (.nselRise (requestFrame 2#8 (.cardLock 101))) w).map (fun e =>
      (e.port.accepted.length, e.port.delivery.map (fun a => a.answer.result))) = some (1, [.ok]) := by decide +kernel

/-- 10.6, the dip: 2.93 V, 2.98 V, 3.02 V. -/
theorem test_supply_dip :
    let s0 := (after (.supplyBelowWarning (volts 2930 0)) mall).getD mall
    let s12 := (after (.supplyAboveRecovery (volts 2980 12)) s0).getD mall
    let s15 := (after (.supplyAboveRecovery (volts 3020 15)) s12).getD mall
    s0.supply = some .low ∧ s0.guard = some { startedAt := 0, span := 20 } ∧ s0.events = 0xE0#8 ∧
    s12.supply = some .low ∧ s15.supply = some .normal ∧ s15.supplyLow = { live := false, latched := true } := by
  decide +kernel

/-- 10.6, the park: the guard runs out 20 ms after its start, not 19. -/
theorem test_guard_timer :
    let s := { asking mall (.cardLock 101) with
      supply := some .low, guard := some { startedAt := 300, span := 20 } }
    (after (.guardTimerRunsOut (volts 2910 320)) s).map (fun t =>
      (t.supply, t.port.delivery.map (fun a => a.answer.result))) = some (some .parked, [.parked]) ∧
    (after (.guardTimerRunsOut (volts 2910 319)) s).map (fun t => t.supply) = some (some .low) := by decide +kernel

/-- 10.6, the stop: the posting in flight stands; at 2.70 V the device runs on. -/
theorem test_supply_stop :
    (after (.supplyStop (volts 2699 9)) (flight mall (.cardLock 101))).map (fun t =>
      (t.powered, t.records.totals.floor, t.clock.state, t.port.delivery.length)) = some (false, 1040000, .unset, 0) ∧
    (after (.supplyStop (volts 2700 9)) mall).map (fun t => t.powered) = some true := by decide +kernel

/-- 10.6, the restart at 2.82 V; R178: not at 2.75 V, and not without VHOLD. -/
theorem test_power_up :
    let s := (after (.supplyStop (volts 2699 9)) mall).getD mall
    (after (.powerUp (volts 2820 9000) true) s).map (fun t => (t.supply, t.events, t.clock.state)) =
      some (some .low, 0xE0#8, .unset) ∧
    (after (.powerUp (volts 2750 9000) true) s).map (fun t => t.powered) = some false ∧
    (after (.powerUp (volts 3300 9000) false) s).map (fun t => t.powered) = some false := by decide +kernel

/-- R189, R13: the fall discards the ACCEPTED slot, keeps ANSWERED ones and the clock; R169: the release evaluates. -/
theorem test_nreset :
    let s := { asking mall (.cardLock 101) with port := { (asking mall (.cardLock 101)).port with
      delivery := [answeredSlot 0] } }
    let down := (after .nresetFall s).getD mall
    let up := (after (.nresetRelease (volts 2949 50)) down).getD mall
    down.port.accepted = [] ∧ down.port.delivery = [answeredSlot 0] ∧ down.clock = mall.clock ∧ down.events = 0x00#8 ∧
    up.supply = some .low ∧ up.events = 0xC0#8 ∧ up.lastKind = .settlement := by decide +kernel

/-! Witnesses: states and operands that meet the hypotheses of an obligation together, clause by clause -/

theorem witness_StepRunsTheFrontCommand : State.reset.pending = [] := rfl

/-- Every operand at an end of its range. -/
theorem witness_RequestFramesSpelledAndChecked :
    [Instr.cardIssue (2 ^ 64 - 1) 511 (2 ^ 32 - 1) (2 ^ 32 - 1), .cardReload 1 0 1, .cardInquire 1 1, .cardLock 1,
      .cardUnlock (2 ^ 64 - 1), .cardRetire 1 .expired, .cardTransfer 1 1, .cardPurge 1, .redeem 1 0 1,
      .holdPlace 1 511 1 0, .holdComplete 65535 511 1, .holdVoid 1 0, .holdInquire 65535 1, .refund 1 0 1,
      .merchantEnrol 511 { defaultSettings with tolerance := 5000 }, .merchantUpdate 0 defaultSettings,
      .merchantSuspend 511, .merchantResume 0, .merchantWithdraw 1, .merchantInquire 511 1,
      .scheduleStage .b { threeTiers with tiers := 255, t3 := 2 ^ 40 - 1 }, .scheduleRead .b .closing, .periodClose,
      .statementRead 511 2, .statementsRelease 7, .totalsRead 3, .conditionsClearDevice, .conditionsClearMerchant 511,
      .conditionsClearAllMerchants, .conditionsClearCard 1, .conditionScan .merchant 511, .conditionScan .card 32767,
      .eventsRead, .eventsClear 0xFF#8, .clockSet (2 ^ 32 - 1), .clockRead, .limitsSetValue deliveredLimits.value,
      .limitsSetMonitor { deliveredLimits.monitor with ratio := 65535, dirWatermark := 65535 },
      .limitsSetDevice deliveredLimits.device, .limitsRead .device].all
      (fun i => WellFormed i && isRequest i && (encodeRequest i).isSome) = true := by decide +kernel

/-- Each checked field one past an end of its range, and an amount of 0, with the other fields in range; and both together. -/
theorem witness_RequestFramesSpelledAndChecked_refused :
    let serial := beBytes 8 1
    let badField : List (Nat × List Byte) :=
      [(0x13, beBytes 8 0), (0x20, serial ++ beBytes 2 512 ++ beBytes 4 1), (0x23, beBytes 2 0 ++ beBytes 2 1),
        (0x12, serial ++ beBytes 1 2), (0x15, serial ++ beBytes 1 0), (0x15, serial ++ beBytes 1 4),
        (0x16, serial ++ beBytes 8 0), (0x24, beBytes 2 1 ++ beBytes 1 2),
        (0x30, beBytes 2 511 ++ [0x01#8, 0x01#8] ++ beBytes 2 5001 ++ [0x01#8, 0x01#8]), (0x34, beBytes 2 0),
        (0x40, beBytes 1 2), (0x41, beBytes 1 1 ++ beBytes 1 3), (0x43, beBytes 2 511 ++ beBytes 1 3), (0x44, beBytes 1 8),
        (0x45, beBytes 1 4), (0x50, beBytes 1 4), (0x50, beBytes 1 1 ++ beBytes 2 512), (0x51, beBytes 1 2),
        (0x51, beBytes 1 1 ++ beBytes 2 32768), (0x62, beBytes 1 3), (0x62, beBytes 1 2 ++ beBytes 1 4),
        (0x63, beBytes 1 3)]
    let noAmount : List (Nat × List Byte) :=
      [(0x10, serial ++ beBytes 2 511), (0x22, beBytes 2 65535 ++ beBytes 2 511)]
    let both : List (Nat × List Byte) := [(0x25, beBytes 8 0), (0x22, beBytes 2 0)]
    let zero := fun (f : Nat × List Byte) => (amountAt f.1).any (fun n => decide (param (padParams f.2) n 4 = 0))
    let within := fun (f : Nat × List Byte) => decide (FieldsInRange f.1 (padParams f.2))
    (badField ++ noAmount ++ both).all (fun f => decide (f.1 ∈ requestCodes)) = true ∧
    badField.all (fun f => !within f && !zero f) = true ∧ noAmount.all (fun f => within f && zero f) = true ∧
    both.all (fun f => !within f && zero f) = true ∧ [0x00, 0x18, 0x26, 0x54, 0x64].all (· ∉ requestCodes) = true ∧
    FieldsInRange 0x52 [] ∧ amountAt 0x52 = none := by decide +kernel

/-- A read and a posting request, with one slot FREE; while PARKED and while UNSET, one behind a slot on its card. -/
theorem witness_AcceptanceOfARequest :
    let s := inFrame fullPort (some 0)
    let left := s.port.delivery.filter (fun a => decide (some a.slot.place ≠ s.port.offered))
    s.port.accepted.length + left.length < 16 ∧ running s = true ∧ s.nSelLow = true ∧ s.port.frame.isSome = true ∧
    NoReadWaits s ∧ NoReadWaits { s with supply := some .parked } ∧ NoReadWaits { s with clock := clockAtPowerUp } ∧
    (∀ p ∈ s.port.accepted, ∀ x ∈ namedSerials s.records .eventsRead, x ∉ p.serials) ∧
    WellFormed .eventsRead = true ∧ encodeRequest .eventsRead = some (0x52, []) ∧ isRead .eventsRead = true ∧
    WellFormed (.cardLock 101) = true ∧ encodeRequest (.cardLock 101) = some (0x13, beBytes 8 101) ∧
    s.clock.state = .set ∧ s.supply ≠ some .parked ∧
    portInv { s with supply := some .parked } = true ∧ portInv { s with clock := clockAtPowerUp } = true ∧
    (∃ p ∈ s.port.accepted, ∃ x ∈ namedSerials s.records (.cardLock 101), x ∈ p.serials) ∧
    findHold s.records.holds 9 = none ∧ findHold s.records.holds 517 = some hold517 ∧
    tableFind s.records.cards hold517.slot = some card101 ∧
    encodeRequest (.merchantSuspend 12) = some (0x32, beBytes 2 12) := by decide +kernel

/-- The fall of nSEL with nRESET high and low; a frame that offers a response, and one that offers none; 255 edges; a
bad frame; the NOP frame; a good frame with sixteen slots in use. -/
theorem witness_FramesBeginSendAndEnd :
    let s := inFrame mall none
    let full := inFrame { fullPort with port := { fullPort.port with
      accepted := fullPort.port.accepted ++ fullPort.port.accepted.take 2, delivery := [] } } none
    mall.nSelLow = false ∧ running mall = true ∧ ({ mall with nResetLow := true } : State).nSelLow = false ∧
    NoReadWaits mall ∧ NoReadWaits { mall with nResetLow := true } ∧ NoReadWaits s ∧ NoReadWaits full ∧
    NoReadWaits { mall with nSelLow := true } ∧ running { mall with nResetLow := true } = false ∧
    (inFrame fullPort (some 0)).port.frame = some 0x60#8 ∧
    fullPort.port.delivery.head? = some (answeredSlot 0) ∧
    (inFrame fullPort (some 0)).port.offered = some (answeredSlot 0).slot.place ∧ s.port.offered = none ∧
    ({ mall with nSelLow := true } : State).port.frame = none ∧ running s = true ∧ s.nSelLow = true ∧
    s.port.frame.isSome = true ∧ (List.replicate 255 false).length ≠ 256 ∧
    (List.replicate 256 false).length = 256 ∧ goodCrc (List.replicate 256 false) = false ∧
    (requestFrame 1#8 .tick).length = 256 ∧ goodCrc (requestFrame 1#8 .tick) = true ∧
    (toBytes (requestFrame 1#8 .tick)).head? = some 0x00#8 ∧
    running full = true ∧ full.nSelLow = true ∧ full.port.frame.isSome = true ∧
    (requestFrame 1#8 .clockRead).length = 256 ∧ goodCrc (requestFrame 1#8 .clockRead) = true ∧
    (toBytes (requestFrame 1#8 .clockRead)).head? ≠ some 0x00#8 ∧
    16 ≤ full.port.accepted.length + (full.port.delivery.filter (fun a =>
      decide (some a.slot.place ≠ full.port.offered))).length := by decide +kernel

/-- The frame of a code and parameter bytes, under tag 1. -/
def rawFrame (code : Byte) (ps : List Byte) : List Bool := frameBits (code :: 1#8 :: padParams ps)

/-- A code no request has, serial 0, and an amount of 0. -/
theorem witness_AnsweredAtAcceptance_unusable :
    let s := inFrame mall none
    portInv s = true ∧ NoReadWaits s ∧ running s = true ∧ s.nSelLow = true ∧ s.port.frame.isSome = true ∧
    s.port.accepted.length + (s.port.delivery.filter (fun a => decide (some a.slot.place ≠ s.port.offered))).length < 16 ∧
    [(0xFF#8, []), (0x13#8, []), (0x22#8, [0x02#8, 0x05#8, 0x00#8, 0x28#8])].all (fun f =>
      decide ((rawFrame f.1 f.2).length = 256) && goodCrc (rawFrame f.1 f.2) &&
      decide ((toBytes (rawFrame f.1 f.2)).take 2 = [f.1, 1#8]) && decide (f.1 ≠ 0x00#8)) = true ∧
    decodeRequest 0xFF (((toBytes (rawFrame 0xFF#8 [])).drop 2).take 28) = .unknown ∧
    decodeRequest 0x13 (((toBytes (rawFrame 0x13#8 [])).drop 2).take 28) = .badParameter ∧
    decodeRequest 0x22 (((toBytes (rawFrame 0x22#8 [0x02#8, 0x05#8, 0x00#8, 0x28#8])).drop 2).take 28) =
      .badAmount := by decide +kernel

/-- While parked, and while UNSET. -/
theorem witness_AnsweredAtAcceptance :
    let s := inFrame { mall with supply := some .parked } none
    let u := inFrame State.reset none
    portInv s = true ∧ NoReadWaits s ∧ NoReadWaits u ∧ WellFormed (.cardLock 1) = true ∧ isRead (.cardLock 1) = false ∧
    encodeRequest (.cardLock 1) = some (0x13, beBytes 8 1) ∧ running s = true ∧ s.nSelLow = true ∧
    s.port.frame.isSome = true ∧ (∀ p ∈ s.port.accepted, ∀ x ∈ namedSerials s.records (.cardLock 1), x ∉ p.serials) ∧
    s.supply = some .parked ∧ s.port.accepted.length + s.port.delivery.length < 16 ∧
    portInv u = true ∧ running u = true ∧ u.nSelLow = true ∧ u.port.frame.isSome = true ∧
    (∀ p ∈ u.port.accepted, ∀ x ∈ namedSerials u.records (.cardLock 1), x ∉ p.serials) ∧
    u.supply ≠ some .parked ∧ u.clock.state = .unset ∧ u.port.accepted.length + u.port.delivery.length < 16 := by
  decide +kernel

theorem witness_StatusByteShowsTheState :
    fullPort.nSelLow = false ∧ running fullPort = true ∧ NoReadWaits fullPort := by decide +kernel

theorem witness_AttentionLine :
    mall.powered = true ∧ rising mall.records.merchants = true ∧ rising mall.records.cards = true := by decide +kernel

/-- A second below the top, at the top, UNSET as after power-up, a divider that stands, and a stopped device. -/
theorem witness_TickRaisesTheClock :
    let s := at' mall 4294967294
    let d := { mall with clock := { mall.clock with dividerRunning := false } }
    s.powered = true ∧ s.clock.dividerRunning = true ∧ s.records.limits.device.alarmTime < 86400 ∧
    s.clock.state = .set ∧ s.clock.value < 4294967295 ∧ (at' mall 4294967295).clock.value = 4294967295 ∧
    State.reset.clock.state = .unset ∧ d.clock.dividerRunning = false ∧
    ({ mall with powered := false } : State).powered = false ∧ NoReadWaits s ∧ NoReadWaits (at' mall 4294967295) ∧
    NoReadWaits State.reset ∧ NoReadWaits d ∧ NoReadWaits { mall with powered := false } := by decide +kernel

/-- A state with a request waiting and others behind it, at the places that follow. -/
def behind (s : State) (i : Instr) (more : List Instr) : State :=
  let slots := more.zipIdx.map (fun x => { slotOf s.records x.1 with place := 8 + x.2 })
  { s with port := { s.port with accepted := slotOf s.records i :: slots, nextPlace := 8 + more.length } }

/-- One below the floor while UNSET, one below a SET clock, the clock's own value, and the floor while UNSET. -/
theorem witness_ClockSetIsJudged :
    let unset := { mall with clock := { clockAtPowerUp with value := 0 } }
    let ok := fun (s : State) v => decide (Served (asking s (.clockSet v)) (.clockSet v) (slotOf s.records (.clockSet v))) &&
      decide (OthersWait (asking s (.clockSet v)) (slotOf s.records (.clockSet v))) && portInv (asking s (.clockSet v))
    ok unset 999999 = true ∧ 999999 < unset.records.totals.floor ∧
    ok mall 1039999 = true ∧ 1039999 < mall.clock.value ∧
    ok mall 1040000 = true ∧ mall.records.totals.floor ≤ 1040000 ∧
    mall.clock.value ≤ 1040000 ∧ mall.clock.state = .set ∧ mall.records.limits.device.alarmTime < 86400 ∧
    ok unset 1000000 = true ∧ unset.records.totals.floor ≤ 1000000 ∧ unset.clock.state = .unset := by decide +kernel

/-- A later value while two requests on one card wait, with the posting of a third in flight. -/
theorem witness_ClockSetIsJudged_others :
    let t := behind (flight mall .periodClose) (.clockSet 1040001) [.cardLock 101, .cardUnlock 101, .periodClose]
    let s := { t with posting := t.posting.map (fun p => { p with item := .slot 10 }) }
    Served s (.clockSet 1040001) (slotOf mall.records (.clockSet 1040001)) ∧
    OthersWait s (slotOf mall.records (.clockSet 1040001)) ∧ portInv s = true ∧
    s.port.accepted.length = 4 ∧ s.posting.isSome = true ∧ s.clock.state = .set ∧ s.clock.value < 1040001 ∧
    s.records.totals.floor ≤ 1040001 ∧
    (after (.clockSet 1040001) s).map (fun t => (t.clock.value, t.port.accepted.length)) = some (1040001, 3) := by
  decide +kernel

/-- 2,949 and 2,950 mV at the warning level of 2.95 V; 3,001 and 3,000 mV at the recovery level. -/
theorem witness_SupplyMovesBetweenNormalAndLow :
    let w := warningMv mall.records.limits.device.warning
    NoReadWaits mall ∧ NoReadWaits { mall with supply := some .low } ∧ NoReadWaits { mall with supply := some .parked } ∧
    running mall = true ∧ mall.supply = some .normal ∧ (volts 2949 0).vdd < w ∧ w ≤ (volts 2950 0).vdd ∧
    running { mall with supply := some .low } = true ∧ w + 50 < (volts 3001 0).vdd ∧
    running { mall with supply := some .parked } = true ∧ (volts 3000 0).vdd ≤ w + 50 := by decide +kernel

/-- At the G-th millisecond and one before; with a read behind the request that parks. -/
theorem witness_GuardTimerParks :
    let g : Guard := { startedAt := 300, span := 20 }
    let low := fun (s : State) => { s with supply := some .low, guard := some g }
    let s := low (asking mall (.cardLock 101))
    let w := low (behind mall (.cardLock 101) [.cardInquire 101 0, .periodClose])
    [s, w].all (fun s => portInv s && running s && decide (NoReadWaits s)) = true ∧ s.supply = some .low ∧
    s.guard = some g ∧ g.startedAt + g.span ≤ (volts 2910 320).ms ∧ (volts 2910 319).ms < g.startedAt + g.span ∧
    (∀ q ∈ s.port.accepted, isReadSlot q = false) ∧
    ({ s with supplyLow := { live := true, latched := true } } : State).supplyLow.latched = true ∧
    (after (.guardTimerRunsOut (volts 2910 320)) w).map (fun t => t.port.delivery.map (fun a => a.slot.place)) =
      some [7, 9, 8] := by decide +kernel

/-- A plain posting in flight, and a DEVICE clear that clears SUPPLY_LOW on VHOLD. -/
theorem witness_StopLosesVolatileState :
    let s := flight mall (.cardLock 101)
    let c := { flight mall .conditionsClearDevice with supplyLow := { live := false, latched := true } }
    NoReadWaits mall ∧ NoReadWaits s ∧ NoReadWaits c ∧
    mall.powered = true ∧ mall.posting = none ∧ (volts 2699 0).vdd < 2700 ∧ s.powered = true ∧
    s.posting.any (fun p => decide (p.change.finish = .plain)) = true ∧ c.powered = true ∧
    c.posting.any (fun p => decide (p.change.finish = .clearSupplyLow 0 0)) = true ∧ 2700 ≤ (volts 2700 0).vdd := by
  decide +kernel

theorem witness_PowerUpStartsTheDevice :
    let s := { mall with powered := false }
    s.powered = false ∧ s.nResetLow = false ∧ 2750 < (volts 2950 0).vdd ∧
    warningMv s.records.limits.device.warning ≤ (volts 2950 0).vdd ∧ 2750 < (volts 2751 0).vdd ∧
    (volts 2751 0).vdd < warningMv s.records.limits.device.warning ∧ (volts 2750 0).vdd ≤ 2750 ∧
    ({ s with nResetLow := true } : State).powered = false := by decide +kernel

/-- No posting in flight; a link posting, with a slot of the Posting class behind it while PARKED; an expiry posting. -/
theorem witness_FallOfResetClears :
    let s := flight mall (.cardLock 101)
    let p := { behind s (.cardLock 101) [.cardUnlock 101] with supply := some .parked }
    let e := (after .expiryPosting { at' mall 1050000 with expiryWaiting := some 13 }).getD mall
    mall.powered = true ∧ mall.nResetLow = false ∧ mall.posting = none ∧
    NoReadWaits mall ∧
    [s, p, e].all (fun s => s.powered && !s.nResetLow && s.posting.isSome && portInv s && decide (NoReadWaits s)) = true ∧
    p.port.accepted.length = 2 := by decide +kernel

theorem witness_ReleaseOfResetRestarts :
    let s := (after .nresetFall mall).getD mall
    s.nResetLow = true ∧ s.powered = true ∧ s.events = 0x00#8 ∧ s.dirHigh = { live := false, latched := false } ∧
    s.holdsHigh = { live := false, latched := false } ∧ s.supplyLow = { live := false, latched := false } ∧
    s.expiryWaiting = none ∧ s.posting = none := by decide +kernel

/-- Each ground on which no grant is made; the rotation with three kinds waiting, and with none. -/
theorem witness_GrantsFollowTheRotation :
    let s := { asking (computing 17) (.cardLock 101) with expiryWaiting := some 13 }
    isGrant (.cardLock 101) = true ∧ isGrant .statementStep = true ∧ isGrant .expiryPosting = true ∧
    ({ mall with supply := some .parked } : State).supply = some .parked ∧
    ({ mall with nResetLow := true } : State).nResetLow = true ∧ ({ mall with powered := false } : State).powered = false ∧
    [{ mall with supply := some .parked }, { mall with nResetLow := true }, { mall with powered := false },
      flight mall (.cardLock 101), State.reset].all (fun s => decide (NoReadWaits s)) = true ∧
    (flight mall (.cardLock 101)).posting.isSome = true ∧ State.reset.clock.state = .unset ∧
    Instr.expiryPosting ≠ .statementStep ∧
    mayGrant s = true ∧ arbiterChoice s = some .link ∧ grantable s .expiry = true ∧ grantable s .settlement = true ∧
    mayGrant mall = true ∧ arbiterChoice mall = none := by decide +kernel

/-- Another request in the slot; Link's turn while the others wait; Settlement's turn with another candidate of its own. -/
theorem witness_GrantsFollowTheRotation_rows :
    let s := { asking (computing 17) (.cardLock 102) with expiryWaiting := some 13 }
    let c := computing 17
    let early := { c with qual := [{ merchant := 88, due := 1040001 }] }
    let due := { c with qual := [{ merchant := 88, due := 1040000 }] }
    [mall, s, c, { c with alarmPending := true }, early, due].all (fun s => decide (NoReadWaits s)) = true ∧
    isRequest (.cardLock 101) = true ∧ isRead (.cardLock 101) = false ∧ arbiterChoice mall ≠ some .link ∧
    arbiterChoice s = some .link ∧ linkCandidate s = some (slotOf s.records (.cardLock 102)) ∧
    requestOf (slotOf s.records (.cardLock 102)) ≠ some (.cardLock 101) ∧
    arbiterChoice s ≠ some .expiry ∧ arbiterChoice s ≠ some .settlement ∧
    arbiterChoice c = some .settlement ∧ c.alarmPending = false ∧
    arbiterChoice { c with alarmPending := true } = some .settlement ∧
    arbiterChoice early = some .settlement ∧ early.clock.value < 1040001 ∧
    arbiterChoice due = some .settlement ∧ due.clock.state = .set ∧ 1040000 ≤ due.clock.value := by decide +kernel

/-- A link posting alone, one with a read and a request of the Posting class behind it, and a DEVICE clear. -/
theorem witness_PostingsEnd :
    let i := Instr.cardLock 101
    let q := slotOf mall.records i
    let s := flight mall i
    let b := { behind s i [.cardInquire 101 0, .cardUnlock 101] with supply := some .parked }
    let ok := fun (s : State) (q : Slot) => portInv s && decide (NoReadWaits s) && s.posting.any (fun p => decide (p.kind = .link) &&
      decide (p.item = .slot q.place) && (endedAnswer s p).isSome) && decide (q ∈ s.port.accepted)
    ok s q = true ∧ s.port.accepted = [q] ∧ s.posting.any (fun p => decide (p.change.finish = .plain)) = true ∧
    ok b q = true ∧ b.port.accepted.length = 3 ∧
    ok (flight mall .conditionsClearDevice) (slotOf mall.records .conditionsClearDevice) = true := by decide +kernel

/-- An expiry posting with no slot waiting, and one with a request of the Posting class and a read behind it. -/
theorem witness_PostingsEnd_internal :
    let s := (after .expiryPosting { at' mall 1050000 with expiryWaiting := some 13 }).getD mall
    let w := { behind s (.cardUnlock 101) [.cardInquire 101 0] with supply := some .parked }
    [s, w].all (fun s => s.posting.any (fun p => p.answer.isNone && decide (p.change.finish = .plain) &&
      decide (p.kind = .expiry)) && portInv s && running s && decide (NoReadWaits s)) = true ∧
    s.port.accepted = [] := by decide +kernel

/-- Hold 517 of an ACTIVE card at its deadline; hold 9, which does not stand. -/
theorem witness_ExpiryReleasesTheWaitingHold :
    let s := { at' mall 1060000 with expiryWaiting := some 517 }
    NoReadWaits s ∧ NoReadWaits { s with expiryWaiting := some 9 } ∧
    arbiterChoice s = some .expiry ∧ s.expiryWaiting = some 517 ∧ findHold s.records.holds 517 = some hold517 ∧
    tableFind s.records.cards hold517.slot = some card101 ∧ card101.state ≠ .closing ∧
    arbiterChoice { s with expiryWaiting := some 9 } = some .expiry ∧ findHold s.records.holds 9 = none := by
  decide +kernel

theorem witness_CutoverExchangesTheBanks : tablesCanonical mall.records = true := by decide +kernel

/-- A step with another to follow, and the last. -/
theorem witness_StatementStepWritesTheStatement :
    [17, 23].all (fun m => let s := computing m
      decide (NoReadWaits s) && decide (arbiterChoice s = some .settlement) && !s.alarmPending && decide (latchDue s = none) &&
      decide (s.records.closingBank.state = .computing) && decide (s.records.closingBank.nextMerchant = some m) &&
      decide ((closingEntry s.records m).captured = some .a) && rising s.records.closingBank.entries) = true := by
  decide +kernel

/-- A due head, live and not latched, at its due time; and one not live. -/
theorem witness_LatchPostingTakesTheDueHead :
    let k : Qual := { merchant := 88, due := 1040000 }
    let s := { withEntry mall 88 { zeroEntry with f := 10000 } with qual := [k] }
    let l := s.records.limits.monitor
    NoReadWaits s ∧ NoReadWaits { mall with qual := [k] } ∧
    arbiterChoice s = some .settlement ∧ s.alarmPending = false ∧ s.clock.state = .set ∧ s.qual = [k] ∧
    k.due ≤ s.clock.value ∧ (l.refundFloor : Int) ≤ (openEntry s.records 88).f ∧
    (openEntry s.records 88).r * l.ratio < (openEntry s.records 88).f * 65536 ∧
    (merchantOf s.records 88).refundLatched = false ∧
    arbiterChoice { mall with qual := [k] } = some .settlement ∧
    ¬ (l.refundFloor : Int) ≤ (openEntry mall.records 88).f := by decide +kernel

/-- An issue at the cap. -/
theorem witness_CardIssueCreatesTheCard :
    let i := Instr.cardIssue 32768 12 1000000 0
    Granted (asking mall i) i (slotOf mall.records i) ∧ Trading mall.records 12 ∧
    (merchantOf mall.records 12).settings.salesPermitted = true ∧ (merchantOf mall.records 12).salesBlocked = false ∧
    1000000 ≤ mall.records.limits.value.cap ∧
    lookup mall.records.directory 32768 = { slot := none, free := some 0 } := by decide +kernel

/-- A credit up to the cap. -/
theorem witness_ReloadAndRefundCreditTheCard :
    let i := Instr.cardReload 101 12 984000
    let j := Instr.refund 101 12 984000
    cardOf mall.records 101 = some (101, card101) ∧ Spendable mall card101 ∧ Trading mall.records 12 ∧
    card101.available + card101.held + 984000 ≤ mall.records.limits.value.cap ∧
    Granted (asking mall i) i (slotOf mall.records i) ∧ (merchantOf mall.records 12).settings.salesPermitted = true ∧
    (merchantOf mall.records 12).salesBlocked = false ∧ Granted (asking mall j) j (slotOf mall.records j) ∧
    (merchantOf mall.records 12).settings.refundsPermitted = true ∧
    (merchantOf mall.records 12).refundsBlocked = false := by decide +kernel

theorem witness_CardLockAddsHost :
    [99, 101, 103, 104, 105, 102].all (fun x =>
      decide (Granted (asking mall (.cardLock x)) (.cardLock x) (slotOf mall.records (.cardLock x)))) = true ∧
    cardOf mall.records 99 = none ∧ cardOf mall.records 101 = some (101, card101) ∧ card101.state = .active ∧
    cardOf mall.records 103 = some (103, card103) ∧ card103.state = .closing ∧
    cardOf mall.records 104 = some (104, card104) ∧ card104.state = .retired ∧
    cardOf mall.records 105 = some (105, card105) ∧ card105.state = .locked ∧ card105.locks.host = true ∧
    (let v := { card 102 300 with state := .locked, locks := { host := false, velocity := true } }
     let s := withCard mall 102 v
     Granted (asking s (.cardLock 102)) (.cardLock 102) (slotOf s.records (.cardLock 102)) ∧
     cardOf s.records 102 = some (102, v) ∧ v.state = .locked ∧ v.locks.host = false) := by decide +kernel

theorem witness_CardUnlockRemovesHost :
    [99, 101, 103, 104, 105].all (fun x =>
      decide (Granted (asking mall (.cardUnlock x)) (.cardUnlock x) (slotOf mall.records (.cardUnlock x)))) = true ∧
    cardOf mall.records 99 = none ∧ cardOf mall.records 101 = some (101, card101) ∧ card101.state = .active ∧
    cardOf mall.records 103 = some (103, card103) ∧ card103.state = .closing ∧
    cardOf mall.records 104 = some (104, card104) ∧ card104.state = .retired ∧
    cardOf mall.records 105 = some (105, card105) ∧ card105.state = .locked ∧ card105.locks.host = true ∧
    (let v := { card 102 300 with state := .locked, locks := { host := false, velocity := true } }
     let s := withCard mall 102 v
     Granted (asking s (.cardUnlock 102)) (.cardUnlock 102) (slotOf s.records (.cardUnlock 102)) ∧
     cardOf s.records 102 = some (102, v) ∧ v.locks.velocity = true ∧ v.locks.host = false) := by decide +kernel

/-- A card with a hold, one without as CASH_OUT, and one without as EXPIRED. -/
theorem witness_CardRetireDefersOrFinalises :
    let a := Instr.cardRetire 101 .closed
    let b := Instr.cardRetire 102 .cashOut
    let c := Instr.cardRetire 105 .expired
    Granted (asking mall a) a (slotOf mall.records a) ∧ cardOf mall.records 101 = some (101, card101) ∧
    card101.state = .active ∧ 0 < card101.openHolds ∧
    Granted (asking mall b) b (slotOf mall.records b) ∧ cardOf mall.records 102 = some (102, card 102 300) ∧
    (card 102 300).state = .active ∧ (card 102 300).openHolds = 0 ∧
    Granted (asking mall c) c (slotOf mall.records c) ∧ cardOf mall.records 105 = some (105, card105) ∧
    card105.state = .locked ∧ card105.openHolds = 0 := by decide +kernel

/-- A transfer to an ACTIVE card at the cap, and to a serial not known. -/
theorem witness_CardTransferMovesTheValue :
    let s := withCard mall 102 (card 102 750000)
    let a := Instr.cardTransfer 105 102
    let b := Instr.cardTransfer 105 106
    Granted (asking s a) a (slotOf s.records a) ∧ cardOf s.records 105 = some (105, card105) ∧
    card105.state = .locked ∧ card105.openHolds = 0 ∧ cardOf s.records 102 = some (102, card 102 750000) ∧
    (card 102 750000).state = .active ∧
    (card 102 750000).available + (card 102 750000).held + card105.available ≤ s.records.limits.value.cap ∧
    Granted (asking s b) b (slotOf s.records b) ∧ cardOf s.records 106 = none ∧
    (lookup s.records.directory 106).free = some 106 ∧ card105.available ≤ s.records.limits.value.cap := by
  decide +kernel

theorem witness_CardPurgeVacatesTheSlot :
    let a := Instr.cardPurge 104
    let b := Instr.cardPurge 101
    Granted (asking mall a) a (slotOf mall.records a) ∧ cardOf mall.records 104 = some (104, card104) ∧
    card104.state = .retired ∧ Granted (asking mall b) b (slotOf mall.records b) ∧
    cardOf mall.records 101 = some (101, card101) ∧ card101.state ≠ .retired := by decide +kernel

/-- Every refusal at a check that fails behind ones that pass; the full window of 2.8; a cap below the value. -/
theorem witness_CardRefusalsInOrder :
    let r := mall.records
    let ok := fun (s : State) (i : Instr) => decide (Granted (asking s i) i (slotOf s.records i))
    let tight := withRecords mall (fun r => { r with limits := { r.limits with value := { r.limits.value with
      cap := 200000 } } })
    let full := withRecords mall (fun r => { r with directory := r.directory ++ (List.range 32).map (fun n =>
      (200 + n, DirSlot.used (200 + 32768 * n))) })
    [Instr.cardIssue 101 12 1000000 0, .cardReload 99 12 1, .cardReload 101 12 984001, .cardRetire 99 .closed,
      .cardRetire 103 .closed, .cardRetire 104 .closed, .cardTransfer 99 1, .cardTransfer 101 102,
      .cardTransfer 102 104, .cardPurge 99].all (ok mall) = true ∧
    firstFailure (salesChecks (merchantOf r 12) ++ [(decide (1000000 ≤ r.limits.value.cap), .capExceeded),
      (decide ((lookup r.directory 101).slot = none), .cardExists)]) = some .cardExists ∧
    firstFailure (spendableChecks 1040000 card101 ++ salesChecks (merchantOf r 12) ++
      [(decide (card101.available + card101.held + 984001 ≤ r.limits.value.cap), .capExceeded)]) = some .capExceeded ∧
    cardOf r 99 = none ∧ cardOf r 101 = some (101, card101) ∧ cardOf r 103 = some (103, card103) ∧
    card103.state = .closing ∧ cardOf r 104 = some (104, card104) ∧ card104.state = .retired ∧ card101.openHolds ≠ 0 ∧
    cardOf r 102 = some (102, card 102 300) ∧ (card 102 300).openHolds = 0 ∧
    ok full (.cardTransfer 102 (200 + 32768 * 32)) = true ∧ cardOf full.records (200 + 32768 * 32) = none ∧
    (lookup full.records.directory (200 + 32768 * 32)).free = none ∧ ok tight (.cardTransfer 105 106) = true ∧
    cardOf tight.records 105 = some (105, card105) ∧ cardOf tight.records 106 = none ∧
    (lookup tight.records.directory 106).free ≠ none ∧ ¬ card105.available ≤ tight.records.limits.value.cap := by
  decide +kernel

/-- 2.7 after step 7: Q is placed in slot 32,767 while U stands in slot 1, behind it. -/
def topDir : Table DirSlot :=
  [(0, .vacated), (1, .used 0x5000007FFE), (2, .used 0x4000000000), (32766, .used 0x1000007FFE), (32767, .vacated)]

/-- Q placed in slot 32,767; U, which stands in slot 1 alone, vacated, with T found behind it and Q not found. -/
theorem witness_LookupFindsWhatWasPlaced :
    (lookup topDir 0x2000007FFE = { slot := none, free := some 32767 } ∧
      (0x5000007FFE : Nat) ≠ 0x2000007FFE ∧ (lookup topDir 0x5000007FFE).slot = some 1 ∧
      (1 : Nat) < 32768 ∧ slotState topDir 1 = .used 0x5000007FFE ∧ (0x4000000000 : Nat) ≠ 0x5000007FFE ∧
      (lookup topDir 0x4000000000).slot = some 2) ∧
    ∀ k, slotState topDir k = .used 0x5000007FFE → k = 1 := by
  refine ⟨by decide +kernel, fun k hk => ?_⟩
  unfold slotState tableGet at hk
  cases hf : tableFind topDir k with
  | none => rw [hf] at hk; cases hk
  | some v =>
    rw [hf, Option.getD_some] at hk
    subst hk
    have h := tableFind_all (fun k v => decide (v = .used 0x5000007FFE → k = 1)) (t := topDir) (by decide +kernel) hf
    simpa using h

/-- Slot 1 before a USED slot; slot 1 before an EMPTY one, with a run that wraps to slot 32,767. -/
theorem witness_CleanupEmptiesTheRun :
    (1 : Nat) < 32768 ∧ slotState topDir 1 = .used 0x5000007FFE ∧ slotState topDir ((1 + 1) % 32768) ≠ .empty ∧
    slotState (tableErase topDir 2) 1 = .used 0x5000007FFE ∧
    slotState (tableErase topDir 2) ((1 + 1) % 32768) = .empty := by decide +kernel

/-- Approved in full down to nothing, approved in part, and refused for each of the two reasons. -/
theorem witness_RedeemTakesTheApprovedAmount :
    let ask := fun (s : State) a => asking s (.redeem 101 12 a)
    let ok := fun (s : State) a => Granted (ask s a) (.redeem 101 12 a) (slotOf s.records (.redeem 101 12 a))
    let p := withMerchant mall 12 { trader with settings := { trader.settings with partialAllowed := true } }
    let empty := withCard p 101 { card101 with available := 0 }
    cardOf mall.records 101 = some (101, card101) ∧ Spendable mall card101 ∧ Trading mall.records 12 ∧
    ok mall 12000 ∧ 12000 ≤ card101.available ∧ ok p 12001 ∧ card101.available < 12001 ∧ 0 < card101.available ∧
    (merchantOf p.records 12).settings.partialAllowed = true ∧ ok mall 12001 ∧
    (merchantOf mall.records 12).settings.partialAllowed = false ∧ ok empty 1 ∧
    cardOf empty.records 101 = some (101, { card101 with available := 0 }) := by decide +kernel

/-- A fourth hold in full, and a hold in part. -/
theorem witness_HoldPlaceReservesTheAmount :
    let i := Instr.holdPlace 101 12 12000 0
    let j := Instr.holdPlace 101 12 12001 4294967295
    let c := { card101 with openHolds := 3 }
    let s := withCard mall 101 c
    let p := withMerchant s 12 { trader with settings := { trader.settings with partialAllowed := true } }
    Granted (asking s i) i (slotOf s.records i) ∧ cardOf s.records 101 = some (101, c) ∧ Spendable s c ∧
    Trading s.records 12 ∧ c.openHolds < 4 ∧ s.records.holds.length < 4096 ∧ 12000 ≤ c.available ∧
    Granted (asking p j) j (slotOf p.records j) ∧ cardOf p.records 101 = some (101, c) ∧ Spendable p c ∧
    Trading p.records 12 ∧ p.records.holds.length < 4096 ∧ c.available < 12001 ∧ 0 < c.available ∧
    (merchantOf p.records 12).settings.partialAllowed = true := by decide +kernel

theorem witness_HoldTableKeepsItsOrder :
    1 ≤ (65535 : Nat) ∧ (65535 : Nat) ≤ 65535 ∧ [hold13, hold517].length ≤ 4096 ∧
    [hold13, hold517].Pairwise (fun a b => holdBefore a b = true) ∧
    findHold [hold13, hold517] ({ hold13 with id := 12 } : Hold).id = none := by decide +kernel

/-- Over the limit by 1; INSUFFICIENT by 1; up to H; up to available; and in part. -/
theorem witness_HoldCompleteTakesValue :
    let ok := fun (s : State) a =>
      Granted (asking s (.holdComplete 517 40 a)) (.holdComplete 517 40 a) (slotOf s.records (.holdComplete 517 40 a))
    let c := { card101 with available := 300 }
    let s := withCard mall 101 c
    let p := withMerchant s 40 { trader with openHolds := 2, settings := { trader.settings with partialAllowed := true } }
    findHold s.records.holds 517 = some hold517 ∧ hold517.merchant = 40 ∧
    tableFind s.records.cards hold517.slot = some c ∧ s.clock.value < hold517.deadline ∧ c.state ≠ .closing ∧
    hold517.amount + hold517.amount * hold517.tolerance / 10000 = 4800 ∧
    ok s 4801 ∧ ok s 4301 ∧ hold517.amount < 4301 ∧ c.available < 4301 - hold517.amount ∧
    (merchantOf s.records 40).settings.partialAllowed = false ∧ ok s 4000 ∧ 4000 ≤ hold517.amount ∧ ok s 4300 ∧
    4300 - hold517.amount ≤ c.available ∧ ok p 4301 ∧ findHold p.records.holds 517 = some hold517 ∧
    tableFind p.records.cards hold517.slot = some c ∧
    (merchantOf p.records 40).settings.partialAllowed = true := by decide +kernel

/-- No hold, another merchant's, a void one second before the deadline, and both requests at it. -/
theorem witness_HoldVoidReleasesTheHold :
    let ok := fun (s : State) (i : Instr) => Granted (asking s i) i (slotOf s.records i)
    ok mall (.holdVoid 9 40) ∧ findHold mall.records.holds 9 = none ∧ ok mall (.holdVoid 517 12) ∧
    hold517.merchant ≠ 12 ∧ findHold mall.records.holds 517 = some hold517 ∧
    tableFind mall.records.cards hold517.slot = some card101 ∧ card101.state ≠ .closing ∧
    ok (at' mall 1059999) (.holdVoid 517 40) ∧ (at' mall 1059999).clock.value < hold517.deadline ∧
    ok (at' mall 1060000) (.holdVoid 517 40) ∧ hold517.deadline ≤ (at' mall 1060000).clock.value ∧
    ok (at' mall 1060000) (.holdComplete 517 40 1) := by decide +kernel

/-- Card Y of 4.13, as CLOSED and as CASH_OUT: a void and a completion before the deadline and at it, and the Expiry Unit. -/
theorem witness_LastHoldOfAClosingCard :
    let ok := fun (s : State) (i : Instr) => Granted (asking s i) i (slotOf s.records i)
    let cash := { card103 with retireReason := some .cashOut }
    let s := withCard mall 103 cash
    let late := at' mall 1050000
    let e := { late with expiryWaiting := some 13 }
    findHold mall.records.holds 13 = some hold13 ∧ hold13.merchant = 40 ∧
    tableFind mall.records.cards hold13.slot = some card103 ∧ card103.state = .closing ∧ card103.openHolds = 1 ∧
    card103.retireReason = some .closed ∧ ok mall (.holdVoid 13 40) ∧ mall.clock.value < hold13.deadline ∧
    tableFind s.records.cards hold13.slot = some cash ∧ ok s (.holdVoid 13 40) ∧ ok s (.holdComplete 13 40 1500) ∧
    1500 ≤ hold13.amount + hold13.amount * hold13.tolerance / 10000 ∧
    ok late (.holdVoid 13 40) ∧ ok late (.holdComplete 13 40 1) ∧ hold13.deadline ≤ late.clock.value ∧
    NoReadWaits e ∧ arbiterChoice e = some .expiry ∧ e.expiryWaiting = some 13 ∧ findHold e.records.holds 13 = some hold13 ∧
    tableFind e.records.cards hold13.slot = some card103 := by decide +kernel

/-- Card 101 of 3.11, CLOSING with 300 available: up to the hold, up to what is available, and in part. -/
theorem witness_LastHoldOfAClosingCard_approved :
    let ok := fun (s : State) (i : Instr) => Granted (asking s i) i (slotOf s.records i)
    let c := { card101 with state := .closing, retireReason := some .cashOut, available := 300 }
    let t := withCard mall 101 c
    let p := withMerchant t 40 { trader with openHolds := 2, settings := { trader.settings with partialAllowed := true } }
    findHold t.records.holds 517 = some hold517 ∧ hold517.merchant = 40 ∧
    tableFind t.records.cards hold517.slot = some c ∧ c.openHolds = 1 ∧ t.clock.value < hold517.deadline ∧
    4301 ≤ hold517.amount + hold517.amount * hold517.tolerance / 10000 ∧ ok t (.holdComplete 517 40 4000) ∧
    4000 ≤ hold517.amount ∧ ok t (.holdComplete 517 40 4300) ∧ 4300 - hold517.amount ≤ c.available ∧
    ok p (.holdComplete 517 40 4301) ∧ tableFind p.records.cards hold517.slot = some c ∧
    c.available < 4301 - hold517.amount ∧ (merchantOf p.records 40).settings.partialAllowed = true := by decide +kernel

/-- Every refusal at a check that fails behind ones that pass. -/
theorem witness_SpendRefusalsInOrder :
    let r := mall.records
    let ok := fun (s : State) (i : Instr) => decide (Granted (asking s i) i (slotOf s.records i))
    let busy := { card101 with openHolds := 4 }
    let value := fun (c : Card) a =>
      decide (a ≤ c.available ∨ 0 < c.available ∧ (merchantOf r 12).settings.partialAllowed = true)
    [Instr.redeem 99 12 1, .refund 99 12 1, .holdPlace 99 12 1 0, .redeem 101 12 12001, .redeem 105 12 1,
      .refund 101 12 984001, .holdComplete 9 40 1, .holdComplete 517 12 1].all (ok mall) = true ∧
    ok (withCard mall 101 busy) (.holdPlace 101 12 1 0) = true ∧
    cardOf r 99 = none ∧ cardOf r 101 = some (101, card101) ∧ cardOf r 105 = some (105, card105) ∧
    cardOf (withCard mall 101 busy).records 101 = some (101, busy) ∧
    firstFailure (spendableChecks 1040000 card101 ++ tradingChecks (merchantOf r 12) ++
      [(value card101 12001, .insufficient)]) = some .insufficient ∧
    firstFailure (spendableChecks 1040000 card105 ++ tradingChecks (merchantOf r 12) ++
      [(value card105 1, .insufficient)]) = some .cardLocked ∧
    firstFailure (spendableChecks 1040000 busy ++ tradingChecks (merchantOf r 12) ++
      [(decide (busy.openHolds < 4), .cardHoldsFull), (decide (r.holds.length < 4096), .holdsFull),
        (value busy 1, .insufficient)]) = some .cardHoldsFull ∧
    firstFailure (spendableChecks 1040000 card101 ++ refundChecks (merchantOf r 12) ++
      [(decide (card101.available + card101.held + 984001 ≤ r.limits.value.cap), .capExceeded)]) =
      some .capExceeded ∧
    findHold r.holds 9 = none ∧ findHold r.holds 517 = some hold517 ∧ hold517.merchant ≠ 12 := by decide +kernel

/-- Each request in each state of a merchant. -/
theorem witness_MerchantRequestsByState :
    let ok := fun (s : State) (i : Instr) => decide (Granted (asking s i) i (slotOf s.records i))
    let gone := withMerchant mall 12 { trader with state := .withdrawn, withdrawnIn := some 0 }
    let quiet := withMerchant mall 12 { trader with state := .suspended }
    let five := fun m => [Instr.merchantEnrol m trader.settings, .merchantUpdate m defaultSettings, .merchantSuspend m,
      .merchantResume m, .merchantWithdraw m]
    (five 511).all (ok mall) = true ∧ (merchantOf mall.records 511).state = .unenrolled ∧
    (five 12).all (ok mall) = true ∧ (merchantOf mall.records 12).state = .enrolled ∧
    (merchantOf mall.records 12).openHolds = 0 ∧
    (five 12).all (ok quiet) = true ∧ (merchantOf quiet.records 12).state = .suspended ∧
    (five 12).all (ok gone) = true ∧ (merchantOf gone.records 12).state = .withdrawn ∧
    ok mall (.merchantWithdraw 40) = true ∧ (merchantOf mall.records 40).state = .enrolled ∧
    0 < (merchantOf mall.records 40).openHolds := by decide +kernel

/-- Thresholds one apart, and equal ones. -/
theorem witness_ScheduleStageReplaces :
    let good := { threeTiers with t2 := 500001 }
    let bad := { threeTiers with t2 := 500000 }
    let ok := fun (i : Instr) => Granted (asking mall i) i (slotOf mall.records i)
    ok (.scheduleStage .a good) ∧ ok (.scheduleStage .b good) ∧ 1 ≤ good.tiers ∧ good.tiers ≤ 4 ∧ 1 ≤ good.t1 ∧
    good.t1 < good.t2 ∧ ¬ 4 ≤ good.tiers ∧ ok (.scheduleStage .a bad) ∧ 3 ≤ bad.tiers ∧ ¬ bad.t1 < bad.t2 := by
  decide +kernel

theorem witness_CloseAndAlarmCutOver :
    Granted (asking mall .periodClose) .periodClose (slotOf mall.records .periodClose) ∧
    mall.records.closingBank.state = .absent ∧
    Granted (asking ready .periodClose) .periodClose (slotOf ready.records .periodClose) ∧
    NoReadWaits { mall with alarmPending := true } ∧ NoReadWaits { ready with alarmPending := true } ∧
    ready.records.closingBank.state ≠ .absent ∧ arbiterChoice { mall with alarmPending := true } = some .settlement ∧
    arbiterChoice { ready with alarmPending := true } = some .settlement := by decide +kernel

theorem witness_ReleaseFreesTheClosingBank :
    let ok := fun (s : State) q =>
      Granted (asking s (.statementsRelease q)) (.statementsRelease q) (slotOf s.records (.statementsRelease q))
    let r := withMerchant ready 210 { trader with state := .withdrawn, withdrawnIn := some 5 }
    let d := withRecords r (fun x => { x with totals := { x.totals with closeDeferred := true } })
    ok mall 7 ∧ tablesCanonical mall.records = true ∧ mall.records.closingBank.state = .absent ∧
    ok (computing 23) 5 ∧ tablesCanonical (computing 23).records = true ∧
    (computing 23).records.closingBank.state = .computing ∧ ok ready 4 ∧ tablesCanonical ready.records = true ∧
    ready.records.closingBank.state = .ready ∧ ready.records.closingBank.period ≠ 4 ∧ ok r 5 ∧
    tablesCanonical r.records = true ∧ r.records.closingBank.state = .ready ∧ r.records.closingBank.period = 5 ∧
    r.records.totals.closeDeferred = false ∧ ok d 5 ∧ tablesCanonical d.records = true ∧
    d.records.closingBank.period = 5 ∧ d.records.totals.closeDeferred = true := by decide +kernel

/-- Every figure at its bound. -/
theorem witness_StatementFigures :
    let sc := { threeTiers with tiers := 4, t3 := 2000001, c1 := 65535, c2 := 65535, c3 := 65535, c4 := 65535, allowance := 65535 }
    let e := { zeroEntry with r := Config.posMax, f := 0, s := Config.posMax, k := Config.posMax, dIn := Config.posMax }
    scheduleValid sc = true ∧ sc.c1 < 65536 ∧ sc.c2 < 65536 ∧ sc.c3 < 65536 ∧ sc.c4 < 65536 ∧ sc.allowance < 65536 ∧
    (0 ≤ e.r ∧ e.r ≤ Config.posMax) ∧ (0 ≤ e.f ∧ e.f ≤ Config.posMax) ∧ (0 ≤ e.s ∧ e.s ≤ Config.posMax) ∧
    (0 ≤ e.k ∧ e.k ≤ Config.posMax) ∧ (0 ≤ e.dIn ∧ e.dIn ≤ Config.posMax) := by decide +kernel

/-- A merchant with a latched condition that is not live, and one with none; a card whose VELOCITY is latched, inside its window
and at its end; all merchants, with one condition cleared and with none. -/
theorem witness_ClearsOfMerchantsAndCards :
    let c := { card 102 300 with
      state := .locked, locks := { host := false, velocity := true }, velocityLatched := true, velocityCount := 21,
      windowStart := 1036400 }
    let s := withCard mall 102 c
    let x := withMerchant mall 88 { trader with refundLatched := true, refundsBlocked := true }
    let i := Instr.conditionsClearAllMerchants
    let ok := fun (s : State) (i : Instr) => Granted (asking s i) i (slotOf s.records i)
    ok mall (.conditionsClearMerchant 511) ∧ ok x (.conditionsClearMerchant 88) ∧
    (merchantOf x.records 88).refundLatched = true ∧ (openEntry x.records 88).f = 0 ∧
    ok mall (.conditionsClearCard 99) ∧ cardOf mall.records 99 = none ∧
    ok s (.conditionsClearCard 102) ∧ cardOf s.records 102 = some (102, c) ∧ c.velocityLatched = true ∧
    velocityLive s.records.limits.monitor s.clock.value c = false ∧ ok (at' s 1039999) (.conditionsClearCard 102) ∧
    velocityLive s.records.limits.monitor 1039999 c = true ∧
    ok mall i ∧ tablesCanonical mall.records = true ∧ ok x i ∧ tablesCanonical x.records = true := by decide +kernel

/-- SUPPLY_LOW entered, and entered and left, while the posting is in flight, with the clock, the alarm and the guard timer
moved; at its end the one stays and the other is cleared. -/
theorem witness_ClearOfDevice :
    let j := Instr.conditionsClearDevice
    let q := slotOf mall.records j
    let t := flight mall j
    let low := { (after (.supplyBelowWarning (volts 2940 3)) t).getD t with
      clock := { mall.clock with value := 1040009 }, alarmPending := true
      posting := t.posting.map (fun p => { p with alarmFired := true }) }
    let back := (after (.supplyAboveRecovery (volts 3300 9)) low).getD t
    let told := fun (u : State) => (after (.postingEnd (volts 3300 9)) u).map (fun u =>
      (u.port.delivery.map (fun a => a.answer), u.supplyLow))
    Granted (asking mall j) j q ∧ low.supplyLow = { live := true, latched := true } ∧ low.guard.isSome = true ∧
    [(low, true), (back, true), (t, false)].all (fun x => decide (x.1.posting =
      t.posting.map (fun p => { p with alarmFired := x.2 })) && decide (x.1.port.accepted = [q])) = true ∧
    told low = some ([answer .ok (field 2 0 ++ field 2 1)], { live := true, latched := true }) ∧
    told back = some ([answer .ok (field 2 1 ++ field 2 0)], { live := false, latched := false }) := by decide +kernel

/-- Each group at the ends of its ranges, and one out of range by 1. -/
theorem witness_LimitsSetReplacesTheGroup :
    let ok := fun (i : Instr) => Granted (asking mall i) i (slotOf mall.records i)
    let m := deliveredLimits.monitor
    let d := deliveredLimits.device
    ok (.limitsSetValue { cap := 100000000, holdMin := 2592000, holdMax := 2592000 }) ∧
    ok (.limitsSetValue { cap := 100000001, holdMin := 1, holdMax := 1 }) ∧
    valueInRange { cap := 100000000, holdMin := 2592000, holdMax := 2592000 } = true ∧
    valueInRange { cap := 100000001, holdMin := 1, holdMax := 1 } = false ∧
    ok (.limitsSetMonitor { m with velocityLimit := 254, dirWatermark := 32768, holdWatermark := 1 }) ∧
    monitorInRange { m with velocityLimit := 254, dirWatermark := 32768, holdWatermark := 1 } = true ∧
    ok (.limitsSetMonitor { m with holdWatermark := 4097 }) ∧ monitorInRange { m with holdWatermark := 4097 } = false ∧
    ok (.limitsSetDevice { d with guardTime := 255, alarmTime := 86399 }) ∧
    deviceInRange { d with guardTime := 255, alarmTime := 86399 } = true ∧
    ok (.limitsSetDevice { d with alarmTime := 86400 }) ∧ deviceInRange { d with alarmTime := 86400 } = false := by
  decide +kernel

/-- 2,999 and 3,000 mV at the new warning level of 3.00 V; 3,051 and 3,050 mV at its recovery level. -/
theorem witness_ChangedLevelsMeetTheSupply :
    let t := flight mall (.limitsSetDevice { deliveredLimits.device with warning := .v300, guardTime := 30 })
    t.posting.any (fun p => decide (p.change.finish = .supplyLevels) &&
      decide (warningMv p.change.records.limits.device.warning = 3000)) = true ∧
    [t, { t with supply := some .low }, { t with supply := some .parked }].all (fun s => decide (NoReadWaits s)) = true ∧
    t.supply = some .normal ∧ (volts 2999 0).vdd < 3000 ∧ 3000 ≤ (volts 3000 0).vdd ∧
    ({ t with supply := some .low } : State).supply = some .low ∧ 3000 + 50 < (volts 3051 0).vdd ∧
    ({ t with supply := some .parked } : State).supply = some .parked ∧ (volts 3050 0).vdd ≤ 3000 + 50 ∧
    ∀ x ∈ t.port.accepted, isReadSlot x = false := by decide +kernel

/-- Each of the twelve reads, waiting alone and with other slots waiting; and another row in its place. -/
theorem witness_ReadsAreServed :
    [Instr.cardInquire 101 0, .holdInquire 517 1, .merchantInquire 511 1, .scheduleRead .b .staged, .statementRead 511 2,
      .totalsRead 3, .conditionScan .card 32767, .eventsRead, .eventsClear 0xFF#8, .clockSet 4294967295, .clockRead,
      .limitsRead .device].all (fun i =>
        [asking mall i, behind mall i [.cardLock 102, .cardInquire 102 0, .periodClose]].all (fun s =>
          isRead i && decide (Served s i (slotOf mall.records i)) && decide (OthersWait s (slotOf mall.records i)) &&
          portInv s && (after i s).isSome) && decide (i ≠ .periodClose)) = true := by decide +kernel

/-- Cards and holds that stand and do not; scans that find the first latched number, and none. -/
theorem witness_ReadsAnswerTheirFields :
    let x := withMerchant mall 12 { trader with refundLatched := true }
    let y := { card 102 300 with velocityLatched := true }
    let v := withCard mall 102 y
    (cardOf mall.records 99 = none ∧ cardOf mall.records 101 = some (101, card101) ∧
      findHold mall.records.holds 9 = none ∧ findHold mall.records.holds 517 = some hold517 ∧
      tableFind mall.records.cards hold517.slot = some card101 ∧
      rising mall.records.merchants = true ∧ rising mall.records.cards = true ∧
      rising x.records.merchants = true ∧ (merchantOf x.records 12).refundLatched = true ∧
      rising v.records.cards = true ∧ tableFind v.records.cards 102 = some y ∧ y.velocityLatched = true) ∧
    (∀ m, (merchantOf mall.records m).refundLatched = false ∧ (merchantOf mall.records m).deficitLatched = false) ∧
    (∀ i, 12 ≤ i → i < 12 → (merchantOf x.records i).refundLatched = false ∧
      (merchantOf x.records i).deficitLatched = false) ∧
    (∀ j c, tableFind mall.records.cards j = some c → c.velocityLatched = false) ∧
    ∀ i c, i < 102 → tableFind v.records.cards i = some c → c.velocityLatched = false := by
  refine ⟨by decide +kernel, fun m => ?_, fun i h h' => absurd h (Nat.not_le_of_lt h'), fun j c h => ?_, fun i c hi h => ?_⟩
  · have h := tableGet_all (fun x => !x.refundLatched && !x.deficitLatched) (dflt := unenrolledMerchant)
      (t := mall.records.merchants) rfl (by decide +kernel) m
    simpa [merchantOf] using h
  · have h := tableFind_all (fun _ c => !c.velocityLatched) (t := mall.records.cards) (by decide +kernel) h
    simpa using h
  · have h := tableFind_all (fun k c => !c.velocityLatched || decide (102 ≤ k)) (by decide +kernel) h
    rw [Bool.or_eq_true, decide_eq_true_eq] at h
    exact h.elim (fun h => by simpa using h) (fun h => absurd h (Nat.not_le_of_lt hi))

/-- No closing bank, one COMPUTING, and one READY, for a merchant with a statement and one not captured. -/
theorem witness_ReadsAnswerForPeriods :
    let st := computeStatement threeTiers { zeroEntry with r := 5 }
    let e := { zeroEntry with r := 5, captured := some .a, statement := some st }
    let s := withRecords ready (fun r => { r with closingBank := { r.closingBank with entries := [(17, e)] } })
    let b := s.records.closingBank
    mall.records.closingBank.state = .absent ∧ (computing 17).records.closingBank.state = .computing ∧
    b.state = .ready ∧ (closingEntry s.records 17).captured = some .a ∧
    (closingEntry s.records 17).statement = some st ∧ (closingEntry s.records 12).captured = none ∧
    b.closedAt = some 1030000 ∧ b.closedOutstanding = some 2000000 ∧ b.nextMerchant = some 512 := by decide +kernel

/-- A request refused in its posting. -/
theorem witness_RefusalsChangeNothing :
    Granted (asking mall (.cardPurge 101)) (.cardPurge 101) (slotOf mall.records (.cardPurge 101)) ∧
    result mall (.cardPurge 101) = some .notRetired := by decide +kernel

/-- The mall with its outstanding the sum over its cards, and the open bank in balance. -/
def settled : State :=
  withRecords mall (fun r => { r with
    totals := { r.totals with outstanding := 267800 }
    openBank := { r.openBank with openingOutstanding := 302800 } })

/-- For the six invariants: a step that runs, from a state that meets them all with a redemption in flight. -/
theorem witness_StepKeeps :
    let s := { flight settled (.redeem 101 12 1000) with pending := [.tick], qual := [{ merchant := 88, due := 1040900 }] }
    tablesInv s = true ∧ portInv s = true ∧ floorInv s = true ∧ conditionsInv s = true ∧ accountsInv s = true ∧
    banksInv s = true ∧ s.clock.state = .set ∧
    s.posting.any (fun p => decide (p.change.records.totals.outstanding = 266800)) = true ∧
    (after .tick { s with pending := [] }).map (fun t => t.clock.value) = some 1040001 := by decide +kernel

theorem witness_StepKeeps_step :
    step { mall with pending := [.tick] } = .next (tickClock mall) := rfl

end Sys2Proof.Tests
end

section
/-! PROOFS. The posting floor and the Mall Clock (R9, R10, R13): what each piece of a step does to them. -/

namespace Sys2Proof.Machine

/-! Pieces of a step that touch neither the records nor the clock -/

/-- A change beside the records and the clock, which keeps the posting in flight or drops it. -/
structure Beside (s t : State) : Prop where
  records : t.records = s.records
  clock : t.clock = s.clock
  posting : t.posting = s.posting ∨ t.posting = none

theorem Beside.refl (s : State) : Beside s s := ⟨rfl, rfl, .inl rfl⟩

theorem Beside.trans {s t u : State} (h : Beside s t) (k : Beside t u) : Beside s u where
  records := k.records.trans h.records
  clock := k.clock.trans h.clock
  posting := by
    rcases k.posting with k1 | k1
    · rw [k1]; exact h.posting
    · exact .inr k1

theorem selFall_beside (s : State) : Beside s (selFall s) := by
  unfold selFall
  split
  · exact .refl s
  · split
    · exact ⟨rfl, rfl, .inl rfl⟩
    · exact ⟨rfl, rfl, .inl rfl⟩

theorem answerBlocked_beside (s : State) (q : Slot) : Beside s (answerBlocked s q) := by
  unfold answerBlocked
  split
  · exact .refl s
  · split
    · exact ⟨rfl, rfl, .inl rfl⟩
    · exact .refl s

theorem accept_beside (s : State) (code tag : Byte) (ps : List Byte) : Beside s (accept s code tag ps) := by
  unfold accept
  split
  · exact ⟨rfl, rfl, .inl rfl⟩
  · exact ⟨rfl, rfl, .inl rfl⟩
  · exact ⟨rfl, rfl, .inl rfl⟩
  · next i _ =>
    unfold goOn
    simp only
    split
    · exact ⟨rfl, rfl, .inl rfl⟩
    · exact Beside.trans (t := addSlot s _) ⟨rfl, rfl, .inl rfl⟩ (answerBlocked_beside _ _)

theorem judgeFrame_beside (s : State) (sdi : List Bool) : Beside s (judgeFrame s sdi) := by
  have flags : ∀ r n, Beside s (setFrameFlags s r n) := fun _ _ => ⟨rfl, rfl, .inl rfl⟩
  unfold judgeFrame
  split
  · exact flags _ _
  · split
    · split
      · exact flags _ _
      · split
        · exact (flags _ _).trans (accept_beside _ _ _ _)
        · exact flags _ _
    · exact flags _ _

theorem deliver_beside (s : State) (sdi : List Bool) : Beside s (deliver s sdi) := by
  unfold deliver
  split
  · exact .refl s
  · split
    · exact ⟨rfl, rfl, .inl rfl⟩
    · exact .refl s

theorem selRise_beside (sdi : List Bool) (s : State) : Beside s (selRise sdi s) := by
  unfold selRise
  split
  · simp only
    have pin : Beside s { s with nSelLow := false } := ⟨rfl, rfl, .inl rfl⟩
    split
    · exact pin.trans ((deliver_beside _ sdi).trans ((judgeFrame_beside _ sdi).trans ⟨rfl, rfl, .inl rfl⟩))
    · exact pin
  · exact .refl s

theorem enterLow_beside (s : State) : Beside s (enterLow s) := ⟨rfl, rfl, .inl rfl⟩

theorem enterNormal_beside (s : State) : Beside s (enterNormal s) := by
  unfold enterNormal
  simp only
  split
  · exact ⟨rfl, rfl, .inl rfl⟩
  · exact ⟨rfl, rfl, .inl rfl⟩

theorem firstEvaluation_beside (s : State) : Beside s (firstEvaluation s) := by
  unfold firstEvaluation
  split
  · exact enterLow_beside s
  · exact ⟨rfl, rfl, .inl rfl⟩

theorem compareSupply_beside (s : State) : Beside s (compareSupply s) := by
  unfold compareSupply
  split
  · exact .refl s
  · split
    · exact enterLow_beside s
    · exact .refl s
  · split
    · exact enterNormal_beside s
    · exact .refl s
  · split
    · exact enterNormal_beside s
    · exact .refl s

theorem supplyFall_beside (s : State) : Beside s (supplyFall s) := by
  unfold supplyFall
  split
  · exact enterLow_beside s
  · exact .refl s

theorem supplyRise_beside (s : State) : Beside s (supplyRise s) := by
  unfold supplyRise
  split
  · exact enterNormal_beside s
  · exact .refl s

/-! The invariant of floor and clock -/

theorem floorInv_iff (s : State) : floorInv s = true ↔
    (s.clock.state = .set → s.records.totals.floor ≤ s.clock.value) ∧
    ∀ p, s.posting = some p → s.records.totals.floor ≤ floorAtLeast p ∧
      (s.clock.state = .unset → floorAtMost p ≤ s.records.totals.floor) ∧
      (s.clock.state = .set → floorAtMost p ≤ s.clock.value) := by
  cases hc : s.clock.state <;> simp [floorInv, hc, Option.all_eq_true]

/-- What every piece of a step but a loss of power does: floor and clock rise or stand, and the invariant is kept. -/
structure FloorKept (s t : State) : Prop where
  inv : floorInv t = true
  floor : s.records.totals.floor ≤ t.records.totals.floor
  clock : s.clock.state = .set → t.clock.state = .set ∧ s.clock.value ≤ t.clock.value

theorem FloorKept.refl {s : State} (h : floorInv s = true) : FloorKept s s := ⟨h, le_rfl, fun h => ⟨h, le_rfl⟩⟩

theorem FloorKept.trans {s t u : State} (h : FloorKept s t) (k : FloorKept t u) : FloorKept s u where
  inv := k.inv
  floor := h.floor.trans k.floor
  clock := fun hs =>
    have ⟨ht, hst⟩ := h.clock hs
    have ⟨hu, htu⟩ := k.clock ht
    ⟨hu, hst.trans htu⟩

theorem Beside.floorKept {s t : State} (h : Beside s t) (hs : floorInv s = true) : FloorKept s t where
  inv := by
    rw [floorInv_iff] at hs ⊢
    rw [h.records, h.clock]
    refine ⟨hs.1, fun p hp => hs.2 p ?_⟩
    rcases h.posting with h1 | h1
    · rw [← h1, hp]
    · rw [h1] at hp; cases hp
  floor := h.records ▸ le_rfl
  clock := fun h1 => by rw [h.clock]; exact ⟨h1, le_rfl⟩

/-- Where a posting in flight is told of the alarm, its floors stand. -/
theorem Settled.posting_floors {s t : State} (h : Settled s t) {p : Posting} (hp : t.posting = some p) :
    ∃ p', s.posting = some p' ∧ floorAtLeast p = floorAtLeast p' ∧ floorAtMost p = floorAtMost p' := by
  rcases h.posting with h1 | h1
  · exact ⟨p, h1 ▸ hp, rfl, rfl⟩
  · rw [h1, Option.map_eq_some_iff] at hp
    obtain ⟨p', hp', rfl⟩ := hp
    exact ⟨p', hp', rfl, rfl⟩

/-- Serving reads and answering slots leaves the floor and sets the clock only forward, at or past the floor (R10). -/
theorem Settled.floorKept {s t : State} (h : Settled s t) (hs : floorInv s = true) : FloorKept s t where
  inv := by
    rw [floorInv_iff] at hs ⊢
    obtain ⟨hfloor, hposting⟩ := hs
    rw [h.records]
    rcases h.clock with hc | ⟨hset, hge, hup⟩
    · rw [hc]
      refine ⟨hfloor, fun p hp => ?_⟩
      obtain ⟨p', hp', hl, hm⟩ := h.posting_floors hp
      rw [hl, hm]
      exact hposting p' hp'
    · refine ⟨fun _ => hge, fun p hp => ?_⟩
      obtain ⟨p', hp', hl, hm⟩ := h.posting_floors hp
      obtain ⟨hlow, hunset, hhigh⟩ := hposting p' hp'
      rw [hl, hm]
      refine ⟨hlow, fun hu => ?_, fun _ => ?_⟩
      · rw [hset] at hu; cases hu
      · cases hst : s.clock.state with
        | unset => exact (hunset hst).trans hge
        | set => exact (hhigh hst).trans (hup hst)
  floor := h.records ▸ le_rfl
  clock := fun hst => by
    rcases h.clock with hc | ⟨hset, -, hup⟩
    · rw [hc]; exact ⟨hst, le_rfl⟩
    · exact ⟨hset, hup hst⟩

/-! Grants -/

/-- A posting with nothing left for its end leaves the floor of its change-set. -/
theorem floors_of_plain {p : Posting} (h : p.change.finish = .plain) :
    floorAtLeast p = p.change.records.totals.floor ∧ floorAtMost p = p.change.records.totals.floor := by
  simp only [floorAtLeast, floorAtMost, h, and_self]

/-- A judgement from a SET clock at or past the floor leaves floors between the floor it found and the clock (R9). -/
theorem Kept.floors {s : State} {p : Posting} (k : Kept (startDraft s) p.change)
    (hf : s.records.totals.floor ≤ s.clock.value) :
    s.records.totals.floor ≤ floorAtLeast p ∧ floorAtMost p ≤ s.clock.value := by
  have hnow : p.change.now = s.clock.value := k.now
  have hfloor : p.change.records.totals.floor = s.records.totals.floor ∨
    p.change.records.totals.floor = s.clock.value := k.floor
  unfold floorAtLeast floorAtMost
  split <;> constructor <;> omega

/-- A grant while the clock is SET, of a judgement that keeps the floor's bound. -/
theorem floorKept_of_grant {s t : State} {p : Posting} (hs : floorInv s = true) (hset : s.clock.state = .set)
    (hr : t.records = s.records) (hc : t.clock = s.clock) (hp : t.posting = some p)
    (k : Kept (startDraft s) p.change) : FloorKept s t where
  inv := by
    rw [floorInv_iff] at hs ⊢
    have hf := hs.1 hset
    obtain ⟨hlow, hhigh⟩ := k.floors hf
    rw [hr, hc]
    refine ⟨fun _ => hf, fun p' hp' => ?_⟩
    obtain rfl : p = p' := Option.some.inj (hp.symm.trans hp')
    refine ⟨hlow, fun hu => ?_, fun _ => hhigh⟩
    rw [hset] at hu; cases hu
  floor := hr ▸ le_rfl
  clock := fun h1 => by rw [hc]; exact ⟨h1, le_rfl⟩

theorem grantLink_floorKept {s : State} (hs : floorInv s = true) (i : Instr) {body : Draft → Draft × Answer}
    (k : ∀ d, Kept d (body d).1) : FloorKept s (grantLink s i body) := by
  rcases grantLink_cases s i body with h | ⟨q, hchoice, hlink, -, h⟩ <;> rw [h]
  · exact .refl hs
  · have hset : s.clock.state = .set :=
      grantable_needs_set (arbiterChoice_some hchoice).2.1 (by rw [candidate, hlink]; rfl) rfl
    exact floorKept_of_grant hs hset rfl rfl rfl (k _)

/-- The grant of an item that needs the clock (R91). -/
theorem grantInternal_floorKept {s : State} (hs : floorInv s = true) (k : Kind) {item : Item} {body : Draft → Draft}
    (hn : needsClock item = true) (hk : ∀ d, Kept d (body d)) : FloorKept s (grantInternal s k item body) := by
  rcases grantInternal_cases s k item body with h | ⟨hchoice, hcand, h⟩ <;> rw [h]
  · exact .refl hs
  · have hset : s.clock.state = .set := grantable_needs_set (arbiterChoice_some hchoice).2.1 hcand hn
    exact floorKept_of_grant hs hset rfl rfl rfl (hk _)

/-- A statement step writes no floor and has nothing left for its end (R132). -/
theorem postStatementStep_floor (m : Nat) (d : Draft) :
    (postStatementStep m d).records.totals.floor = d.records.totals.floor ∧
      (postStatementStep m d).finish = d.finish := by
  have ready : (d.readyEvent m).records = d.records ∧ (d.readyEvent m).finish = d.finish := by
    unfold Draft.readyEvent
    split
    · exact ⟨rfl, rfl⟩
    · exact ⟨rfl, rfl⟩
  unfold postStatementStep
  simp only
  split
  · simp [skipStatement, ready]
  · simp [stepChanges, ready]

/-- The grant of a statement step, which is made with the clock UNSET too. -/
theorem stepGrant_floorKept {s : State} (hs : floorInv s = true) : FloorKept s (stepGrant s) := by
  unfold stepGrant
  split
  · exact .refl hs
  · next m _ =>
    rcases grantInternal_cases s .settlement (.step m) (postStatementStep m) with h | ⟨-, -, h⟩ <;> rw [h]
    · exact .refl hs
    · obtain ⟨hfloor, hfinish⟩ := postStatementStep_floor m (startDraft s)
      refine ⟨?_, le_rfl, fun h1 => ⟨h1, le_rfl⟩⟩
      rw [floorInv_iff] at hs ⊢
      refine ⟨hs.1, fun p hp => ?_⟩
      obtain ⟨hleast, hmost⟩ := floors_of_plain (p := p) (by rw [← Option.some.inj hp]; exact hfinish)
      have hp : p.change.records.totals.floor = s.records.totals.floor := by rw [← Option.some.inj hp]; exact hfloor
      rw [hp] at hleast hmost
      exact ⟨hleast.ge, fun _ => hmost.le, fun hset => hmost.le.trans (hs.1 hset)⟩

/-! The end of a posting -/

/-- The records the end of a posting leaves carry a floor between its bounds; the clock stands, and nothing is in
flight. -/
theorem finishState_floor (s : State) (p : Posting) :
    let t := finishState (applyChange s p) p
    floorAtLeast p ≤ t.records.totals.floor ∧ t.records.totals.floor ≤ floorAtMost p ∧ t.clock = s.clock ∧
      t.posting = none := by
  cases hf : p.change.finish with
  | plain => simp [finishState, floorAtLeast, floorAtMost, hf, applyChange]
  | supplyLevels =>
    have h := compareSupply_beside (applyChange s p)
    have hp : (compareSupply (applyChange s p)).posting = none := h.posting.elim id id
    simp only [finishState, floorAtLeast, floorAtMost, hf]
    rw [h.records, h.clock, hp]
    exact ⟨le_rfl, le_rfl, rfl, rfl⟩
  | clearSupplyLow c n =>
    simp only [finishState, floorAtLeast, floorAtMost, hf, endDeviceClear]
    split
    · simp [applyChange]
    · simp [applyChange]

theorem endPosting_floorKept {s : State} (hs : floorInv s = true) : FloorKept s (endPosting s) := by
  unfold endPosting
  split
  · exact .refl hs
  · next p hp =>
    obtain ⟨hleast, hmost, hclock, hnone⟩ := finishState_floor s p
    have hend : FloorKept s (finishState (applyChange s p) p) := by
      rw [floorInv_iff] at hs
      obtain ⟨hlow, -, hhigh⟩ := hs.2 p hp
      refine ⟨(floorInv_iff _).2 ⟨fun hset => ?_, fun p' hp' => ?_⟩, hlow.trans hleast, fun hset => ?_⟩
      · rw [hclock] at hset ⊢
        exact hmost.trans (hhigh hset)
      · rw [hnone] at hp'; cases hp'
      · rw [hclock]; exact ⟨hset, le_rfl⟩
    have hrest := (answerSlot_place (finishState (applyChange s p) p) p.item (finishAnswer (applyChange s p) p)).trans
      ((settle_settled _).trans (expiryTest_settled _))
    exact hend.trans (hrest.floorKept hend.inv)

/-! Time, nRESET and the supply -/

theorem tickClock_floorKept {s : State} (hs : floorInv s = true) : FloorKept s (tickClock s) := by
  unfold tickClock
  split
  · next h =>
    simp only [Bool.and_eq_true, decide_eq_true_eq] at h
    obtain ⟨⟨-, hset⟩, -⟩ := h
    have hf := ((floorInv_iff s).1 hs).1 hset
    exact (advance_settled s _ hset (Nat.le_succ _) (Nat.le_succ_of_le hf)).floorKept hs
  · exact .refl hs

theorem resetFall_floorKept {s : State} (hs : floorInv s = true) : FloorKept s (resetFall s) := by
  unfold resetFall
  split
  · exact .refl hs
  · split
    · have hend := endPosting_floorKept hs
      have hclear : Beside (endPosting s) (resetVolatile (endPosting s)) := ⟨rfl, rfl, .inr rfl⟩
      exact hend.trans (hclear.floorKept hend.inv)
    · exact Beside.floorKept ⟨rfl, rfl, .inl rfl⟩ hs

theorem raiseHeld_beside (s : State) : Beside s (raiseHeld s) := by
  unfold raiseHeld
  split
  · exact ⟨rfl, rfl, .inl rfl⟩
  · exact .refl s

theorem resetRelease_floorKept {s : State} (hs : floorInv s = true) : FloorKept s (resetRelease s) := by
  unfold resetRelease
  split
  · simp only
    split
    · have restart : Beside s { s with nResetLow := false, lastKind := .settlement, posting := none } :=
        ⟨rfl, rfl, .inr rfl⟩
      have evaluated := (restart.trans ((raiseHeld_beside _).trans (firstEvaluation_beside _))).trans
        (u := evalTables _) ⟨rfl, rfl, .inl rfl⟩
      have kept := evaluated.floorKept hs
      exact kept.trans ((expiryTest_settled _).floorKept kept.inv)
    · exact Beside.floorKept ⟨rfl, rfl, .inl rfl⟩ hs
  · exact .refl hs

theorem guardRunsOut_floorKept {s : State} (hs : floorInv s = true) : FloorKept s (guardRunsOut s) := by
  unfold guardRunsOut
  split
  · have entered : Beside s
        ((evalSupplyLow { s with supply := some .parked, guard := none } true).raise .parkChanged) := ⟨rfl, rfl, .inl rfl⟩
    have kept := entered.floorKept hs
    exact kept.trans ((answerParked_settled _).floorKept kept.inv)
  · exact .refl hs

/-! Steps -/

/-- What every step does: the invariant is kept, the floor is not lowered, nor the clock while it stays SET (R9). -/
structure FloorStep (s t : State) : Prop where
  inv : floorInv t = true
  floor : s.records.totals.floor ≤ t.records.totals.floor
  clock : s.clock.state = .set → t.clock.state = .set → s.clock.value ≤ t.clock.value

theorem FloorKept.step {s t : State} (h : FloorKept s t) : FloorStep s t :=
  ⟨h.inv, h.floor, fun hs _ => (h.clock hs).2⟩

/-- The pieces of a step before a loss of power come first. -/
theorem FloorKept.before {s t u : State} (h : FloorKept s t) (k : FloorStep t u) : FloorStep s u where
  inv := k.inv
  floor := h.floor.trans k.floor
  clock := fun hs hu =>
    have ⟨ht, hst⟩ := h.clock hs
    hst.trans (k.clock ht hu)

/-- A change that leaves the clock UNSET with nothing in flight, and the records as they stand (R13). -/
theorem FloorStep.of_unset {s t : State} (hr : t.records = s.records) (hc : t.clock.state = .unset)
    (hp : t.posting = none) : FloorStep s t where
  inv := by
    rw [floorInv_iff, hc, hp]
    exact ⟨fun h => (by cases h), fun p h => (by cases h)⟩
  floor := hr ▸ le_rfl
  clock := fun _ h => by rw [hc] at h; cases h

theorem powerOn_floorStep {s : State} (hs : floorInv s = true) : FloorStep s (powerOn s) := by
  unfold powerOn
  split
  · simp only
    split
    · exact .of_unset rfl rfl rfl
    · have h := (firstEvaluation_beside (State.raise { volatileAtPowerUp s with powered := true } .clockNeeded)).trans
        (u := evalTables _) ⟨rfl, rfl, .inl rfl⟩
      exact .of_unset h.records (by rw [h.clock]; rfl) (h.posting.elim id id)
  · exact (FloorKept.refl hs).step

theorem stopDevice_floorStep {s : State} (hs : floorInv s = true) : FloorStep s (stopDevice s) := by
  unfold stopDevice
  split
  · exact (endPosting_floorKept hs).before (.of_unset rfl rfl rfl)
  · exact (FloorKept.refl hs).step

theorem expiryGrant_floorKept {s : State} (hs : floorInv s = true) : FloorKept s (expiryGrant s) := by
  unfold expiryGrant
  split
  · exact .refl hs
  · exact grantInternal_floorKept hs _ rfl (fun d => kept_postExpiry d _)

theorem latchGrant_floorKept {s : State} (hs : floorInv s = true) : FloorKept s (latchGrant s) := by
  unfold latchGrant
  split
  · exact .refl hs
  · exact grantInternal_floorKept hs _ rfl (fun d => kept_postLatch d _)

theorem measure_beside (s : State) (r : SupplyReading) : Beside s (measure s r) := ⟨rfl, rfl, .inl rfl⟩

/-- The row of a read serves a read and answers slots, and does nothing else. -/
theorem exec_read_settled {i : Instr} (hi : isRead i = true) {s t : State} (h : exec i s = .next t) : Settled s t := by
  obtain ⟨⟨s1, a⟩, hserve⟩ := Option.isSome_iff_exists.1 (isRead_iff_serve i s ▸ hi)
  obtain ⟨f, hf, he⟩ := exec_read hserve
  obtain rfl := Host.Outcome.next.inj (he.symm.trans h)
  rcases serveRow_cases s i f with hr | ⟨q, -, hr⟩ <;> rw [hr]
  · exact readsServed_settled s
  · rw [hf]
    exact ((serve_settled hserve).1.trans (answerSlot_settled _ _ _)).trans (settle_settled _)

/-- Every row keeps floor and clock: a read that waits is served, and what the row then does is a grant, the end of a
posting, a move of the clock, or a change beside them. -/
theorem exec_floorStep {i : Instr} {s t : State} (hs : floorInv s = true) (h : exec i s = .next t) : FloorStep s t := by
  have served := (readsServed_settled s).floorKept hs
  have measured : ∀ r, FloorKept s (measure (readsServed s) r) := fun r =>
    served.trans ((measure_beside _ r).floorKept served.inv)
  by_cases hread : isRead i = true
  · exact ((exec_read_settled hread h).floorKept hs).step
  rw [Bool.not_eq_true] at hread
  by_cases hreq : isRequest i = true
  · obtain ⟨body, he, hk⟩ := exec_posting_kept hreq hread
    obtain rfl := Host.Outcome.next.inj ((he s).symm.trans h)
    exact (served.trans (grantLink_floorKept served.inv i hk)).step
  cases i <;> first
    | exact absurd rfl hreq
    | obtain rfl := Host.Outcome.next.inj h
  case nselFall => exact (served.trans ((selFall_beside _).floorKept served.inv)).step
  case nselRise sdi => exact (served.trans ((selRise_beside sdi _).floorKept served.inv)).step
  case tick => exact (served.trans (tickClock_floorKept served.inv)).step
  case expiryPosting => exact (served.trans (expiryGrant_floorKept served.inv)).step
  case alarmCutover => exact (served.trans (grantInternal_floorKept served.inv _ rfl kept_postAlarmCutover)).step
  case statementStep => exact (served.trans (stepGrant_floorKept served.inv)).step
  case latchPosting => exact (served.trans (latchGrant_floorKept served.inv)).step
  case nresetFall => exact (served.trans (resetFall_floorKept served.inv)).step
  case nresetRelease r => exact ((measured r).trans (resetRelease_floorKept (measured r).inv)).step
  case powerUp r charged =>
    have hold : Beside (measure (readsServed s) r) { measure (readsServed s) r with vhold := charged } :=
      ⟨rfl, rfl, .inl rfl⟩
    have kept := (measured r).trans (hold.floorKept (measured r).inv)
    exact kept.before (powerOn_floorStep kept.inv)
  case supplyStop r => exact (measured r).before (stopDevice_floorStep (measured r).inv)
  case supplyBelowWarning r => exact ((measured r).trans ((supplyFall_beside _).floorKept (measured r).inv)).step
  case supplyAboveRecovery r => exact ((measured r).trans ((supplyRise_beside _).floorKept (measured r).inv)).step
  case guardTimerRunsOut r => exact ((measured r).trans (guardRunsOut_floorKept (measured r).inv)).step
  case postingEnd r => exact ((measured r).trans (endPosting_floorKept (measured r).inv)).step

/-- Settles O56, piece by piece of the step: only a loss of power ends the SET of the clock, and it writes no floor. -/
theorem stepKeepsTheFloor : Obligations.StepKeepsTheFloor := by
  unfold Obligations.StepKeepsTheFloor
  intro s t hs h
  unfold step at h
  split at h
  · obtain rfl := Host.Outcome.next.inj h
    exact ⟨hs, le_rfl, fun _ _ => le_rfl⟩
  · next c rest _ =>
    have queue : floorInv { s with pending := rest } = true := hs
    obtain ⟨inv, floor, clock⟩ := exec_floorStep queue h
    exact ⟨inv, floor, clock⟩

end Sys2Proof.Machine
end

section
/-! PROOFS. Frames and requests (R181, R186, R190 to R193): what a field reads, what the checks of acceptance find, and that
decode and encode agree. -/

namespace Sys2Proof

/-! Fields of a frame -/

theorem beNat_lt (l : List Byte) : beNat l < 256 ^ l.length := by
  induction l with
  | nil => simp [beNat]
  | cons b rest ih =>
    have hb : b.toNat * 256 ^ rest.length ≤ 255 * 256 ^ rest.length :=
      Nat.mul_le_mul_right _ (Nat.le_of_lt_succ b.isLt)
    have hcons : beNat (b :: rest) = b.toNat * 256 ^ rest.length + beNat rest := by
      simpa [beNat] using beNat_acc rest b.toNat
    rw [hcons, List.length_cons, Nat.pow_succ]
    omega

/-- A field of `w` bytes carries a number of that width. -/
theorem param_lt (ps : List Byte) (at' w : Nat) : param ps at' w < 256 ^ w :=
  (beNat_lt _).trans_le (Nat.pow_le_pow_right (by decide) (List.length_take_le _ _))

/-- The first field of the parameters reads the number it was made of. -/
theorem param_field {w n : Nat} (h : n < 256 ^ w) (rest : List Byte) : param (beBytes w n ++ rest) 2 w = n :=
  param_at (by rw [Nat.sub_self, List.drop_zero, List.take_append_of_le_length (beBytes_length w n).ge,
    List.take_of_length_le (beBytes_length w n).le]) h

/-- A field behind the first reads from the bytes behind it. -/
theorem param_behind {v at' : Nat} (h : v + 2 ≤ at') (n : Nat) (rest : List Byte) (w : Nat) :
    param (beBytes v n ++ rest) at' w = param rest (at' - v) w := by
  have hdrop : (beBytes v n).drop (at' - 2) = [] := List.drop_of_length_le (by rw [beBytes_length]; omega)
  rw [param, param, List.drop_append, hdrop, beBytes_length, List.nil_append, Nat.sub_right_comm]

theorem serialOk_iff (n : Nat) : serialOk n = true ↔ 1 ≤ n ∧ n ≤ 18446744073709551615 := by
  simp only [serialOk, Bool.and_eq_true, decide_eq_true_eq]; omega

theorem merchantOk_iff (n : Nat) : merchantOk n = true ↔ n ≤ 511 := by
  simp only [merchantOk, decide_eq_true_eq]; omega

theorem holdIdOk_iff (n : Nat) : holdIdOk n = true ↔ 1 ≤ n ∧ n ≤ 65535 := by
  simp only [holdIdOk, Bool.and_eq_true, decide_eq_true_eq]; omega

theorem amountOk_iff (n : Nat) : amountOk n = true ↔ n ≠ 0 ∧ n < 256 ^ 4 := by
  simp only [amountOk, Bool.and_eq_true, decide_eq_true_eq]; omega

theorem timeOk_iff (n : Nat) : timeOk n = true ↔ n < 256 ^ 4 := by
  simp only [timeOk, decide_eq_true_eq]; omega

section Fields

variable {n : Nat} (rest : List Byte)

theorem param_serial (h : serialOk n = true) : param (beBytes 8 n ++ rest) 2 8 = n :=
  param_field (by rw [serialOk_iff] at h; omega) rest

theorem param_merchant (h : merchantOk n = true) : param (beBytes 2 n ++ rest) 2 2 = n :=
  param_field (by rw [merchantOk_iff] at h; omega) rest

theorem param_hold (h : holdIdOk n = true) : param (beBytes 2 n ++ rest) 2 2 = n :=
  param_field (by rw [holdIdOk_iff] at h; omega) rest

theorem param_amount (h : amountOk n = true) : param (beBytes 4 n ++ rest) 2 4 = n :=
  param_field ((amountOk_iff n).1 h).2 rest

theorem param_time (h : timeOk n = true) : param (beBytes 4 n ++ rest) 2 4 = n :=
  param_field ((timeOk_iff n).1 h) rest

theorem param_byte (h : n < 256) : param (beBytes 1 n ++ rest) 2 1 = n := param_field h rest

theorem param_word (h : n < 65536) : param (beBytes 2 n ++ rest) 2 2 = n := param_field h rest

end Fields

/-! Enumerated fields -/

theorem readSelect_code (x : Select) : readSelect (selectCode x) = some x := by cases x <;> rfl

theorem readYesNo_code (b : Bool) : readYesNo (yesNoCode b) = some b := by cases b <;> rfl

theorem readSource_code (x : ScheduleSource) : readSource (sourceCode x) = some x := by cases x <;> rfl

theorem readWarning_code (x : WarningLevel) : readWarning (warningCode x) = some x := by cases x <;> rfl

theorem readGroup_code (x : LimitsGroup) : readGroup (groupCode x) = some x := by cases x <;> rfl

theorem readReason_code {r : RetireReason} (h : r ≠ .transferred) : readReason (reasonCode r) = some r := by
  cases r with
  | transferred => exact absurd rfl h
  | _ => rfl

theorem readSelect_isSome (n : Nat) : (readSelect n).isSome = true ↔ n ≤ 1 := by
  rcases n with _ | _ | n <;> simp [readSelect]

theorem readYesNo_isSome (n : Nat) : (readYesNo n).isSome = true ↔ n ≤ 1 := by
  rcases n with _ | _ | n <;> simp [readYesNo]

theorem readSource_isSome (n : Nat) : (readSource n).isSome = true ↔ n ≤ 2 := by
  rcases n with _ | _ | _ | n <;> simp [readSource]

theorem readWarning_isSome (n : Nat) : (readWarning n).isSome = true ↔ n ≤ 3 := by
  rcases n with _ | _ | _ | _ | n <;> simp [readWarning]

theorem readReason_isSome (n : Nat) : (readReason n).isSome = true ↔ 1 ≤ n ∧ n ≤ 3 := by
  rcases n with _ | _ | _ | _ | n <;> simp [readReason]

theorem readReason_ne {n : Nat} {r : RetireReason} (h : readReason n = some r) : r ≠ .transferred := by
  unfold readReason at h
  split at h <;> cases h <;> decide

theorem readGroup_isSome (n : Nat) : (readGroup n).isSome = true ↔ n ≤ 2 := by
  rcases n with _ | _ | _ | n <;> simp [readGroup]

theorem readGroup_eq {n : Nat} {g : LimitsGroup} (h : readGroup n = some g) : n = groupCode g := by
  unfold readGroup at h
  split at h <;> cases h <;> rfl

section Codes

variable (rest : List Byte)

@[simp] theorem param_select (x : Select) : param (beBytes 1 (selectCode x) ++ rest) 2 1 = selectCode x :=
  param_byte rest (by cases x <;> decide)

@[simp] theorem param_yesNo (b : Bool) : param (beBytes 1 (yesNoCode b) ++ rest) 2 1 = yesNoCode b :=
  param_byte rest (by cases b <;> decide)

@[simp] theorem param_source (x : ScheduleSource) : param (beBytes 1 (sourceCode x) ++ rest) 2 1 = sourceCode x :=
  param_byte rest (by cases x <;> decide)

@[simp] theorem param_warning (x : WarningLevel) : param (beBytes 1 (warningCode x) ++ rest) 2 1 = warningCode x :=
  param_byte rest (by cases x <;> decide)

@[simp] theorem param_group (x : LimitsGroup) : param (beBytes 1 (groupCode x) ++ rest) 2 1 = groupCode x :=
  param_byte rest (by cases x <;> decide)

@[simp] theorem param_reason (r : RetireReason) : param (beBytes 1 (reasonCode r) ++ rest) 2 1 = reasonCode r :=
  param_byte rest (by cases r <;> decide)

end Codes

/-! The checks of acceptance, where they pass -/

theorem checked_good {good : Bool} (h : good = true) (i : Instr) : checked good i = .ok i := by
  rw [checked, if_pos h]

theorem checkedAmount_good {amount : Nat} {good : Bool} (ha : amountOk amount = true) (h : good = true) (i : Instr) :
    checkedAmount amount good i = .ok i := by
  rw [checkedAmount, if_neg ((amountOk_iff amount).1 ha).1, checked_good h]

/-! What an encoded request reads as -/

theorem readSettings_bytes {st : Settings} (hst : settingsOk st = true) (m : Nat) (more : List Byte) :
    readSettings (beBytes 2 m ++ settingsBytes st ++ more) = some st := by
  have htol : st.tolerance < 65536 := by simp only [settingsOk, decide_eq_true_eq] at hst; omega
  simp [readSettings, settingsBytes, param_behind, param_word _ htol, readSelect_code, readYesNo_code]

theorem decodeSettings_bytes {m : Nat} (hm : merchantOk m = true) {st : Settings} (hst : settingsOk st = true)
    (mk : Nat → Settings → Instr) (more : List Byte) :
    decodeSettings (beBytes 2 m ++ settingsBytes st ++ more) mk = .ok (mk m st) := by
  have hread : param (beBytes 2 m ++ settingsBytes st ++ more) 2 2 = m := by
    rw [List.append_assoc, param_merchant _ hm]
  simp only [decodeSettings, readSettings_bytes hst, hread, checked, hm, hst, Bool.and_self, if_true]

theorem readSchedule_bytes {sc : Schedule} (h : scheduleFits sc = true) (n : Nat) (more : List Byte) :
    readSchedule (beBytes 1 n ++ scheduleBytes sc ++ more) = sc := by
  simp only [scheduleFits, Bool.and_eq_true, decide_eq_true_eq, and_assoc] at h
  obtain ⟨h0, h1, h2, h3, h4, h5, h6, h7, h8⟩ := h
  simp (disch := omega) [readSchedule, scheduleBytes, param_behind, param_field]

theorem decodeLimitsSet_value {l : ValueLimits} (h : valueFits l = true) (more : List Byte) :
    decodeLimitsSet (beBytes 1 (groupCode .value) ++ valueBytes l ++ more) = .ok (.limitsSetValue l) := by
  simp only [valueFits, Bool.and_eq_true] at h
  obtain ⟨⟨hcap, hmin⟩, hmax⟩ := h
  simp [decodeLimitsSet, readGroup_code, valueBytes, param_behind, param_time, hcap, hmin, hmax]

theorem decodeLimitsSet_monitor {l : MonitorLimits} (h : monitorFits l = true) (more : List Byte) :
    decodeLimitsSet (beBytes 1 (groupCode .monitor) ++ monitorBytes l ++ more) = .ok (.limitsSetMonitor l) := by
  simp only [monitorFits, Bool.and_eq_true, decide_eq_true_eq, timeOk_iff, and_assoc] at h
  obtain ⟨h0, h1, h2, h3, h4, h5, h6, h7⟩ := h
  simp (disch := omega) [decodeLimitsSet, readGroup_code, monitorBytes, param_behind, param_field]

/-- The bits of an operate set that carry a meaning are all the bits it may have (R190). -/
theorem operate_masked : ∀ x : BitVec 6, x &&& 0b000111#6 = 0#6 → x &&& 0b111000#6 = x := by decide

theorem decodeLimitsSet_device {l : DeviceLimits} (h : deviceFits l = true) (more : List Byte) :
    decodeLimitsSet (beBytes 1 (groupCode .device) ++ deviceBytes l ++ more) = .ok (.limitsSetDevice l) := by
  simp only [deviceFits, Bool.and_eq_true, decide_eq_true_eq, timeOk_iff, and_assoc] at h
  obtain ⟨hguard, halarm, hoperate⟩ := h
  have henable := l.enable.isLt
  have hreport : l.report.toNat < 256 := l.report.isLt.trans (by decide)
  have hop : l.operate.toNat < 256 := l.operate.isLt.trans (by decide)
  simp (disch := omega) [decodeLimitsSet, readDevice, readGroup_code, readWarning_code, readYesNo_code, deviceBytes,
    param_behind, param_field, operate_masked _ hoperate]

theorem decodeRetire_bytes {x : Nat} (hx : serialOk x = true) {r : RetireReason} (hr : r ≠ .transferred)
    (more : List Byte) : decodeRetire (beBytes 8 x ++ beBytes 1 (reasonCode r) ++ more) = .ok (.cardRetire x r) := by
  simp [decodeRetire, param_behind, readReason_code hr, param_serial _ hx, checked, hx]

theorem decodeStage_bytes (sel : Select) {sc : Schedule} (h : scheduleFits sc = true) (more : List Byte) :
    decodeStage (beBytes 1 (selectCode sel) ++ scheduleBytes sc ++ more) = .ok (.scheduleStage sel sc) := by
  have hsel : param (beBytes 1 (selectCode sel) ++ scheduleBytes sc ++ more) 2 1 = selectCode sel := by
    rw [List.append_assoc, param_select]
  simp only [decodeStage, hsel, readSelect_code, readSchedule_bytes h]

theorem decodeScheduleRead_bytes (sel : Select) (src : ScheduleSource) (more : List Byte) :
    decodeScheduleRead (beBytes 1 (selectCode sel) ++ beBytes 1 (sourceCode src) ++ more) =
      .ok (.scheduleRead sel src) := by
  simp [decodeScheduleRead, param_behind, readSelect_code, readSource_code]

theorem decodeLimitsRead_bytes (g : LimitsGroup) (more : List Byte) :
    decodeLimitsRead (beBytes 1 (groupCode g) ++ more) = .ok (.limitsRead g) := by
  simp only [decodeLimitsRead, param_group, readGroup_code]

theorem decodeClear_device (more : List Byte) : decodeClear (beBytes 1 0 ++ more) = .ok .conditionsClearDevice := by
  simp [decodeClear, param_byte]

theorem decodeClear_allMerchants (more : List Byte) :
    decodeClear (beBytes 1 2 ++ more) = .ok .conditionsClearAllMerchants := by
  simp [decodeClear, param_byte]

theorem decodeClear_merchant {m : Nat} (h : merchantOk m = true) (more : List Byte) :
    decodeClear (beBytes 1 1 ++ beBytes 2 m ++ more) = .ok (.conditionsClearMerchant m) := by
  simp [decodeClear, param_byte, param_behind, param_merchant _ h, checked, h]

theorem decodeClear_card {x : Nat} (h : serialOk x = true) (more : List Byte) :
    decodeClear (beBytes 1 3 ++ beBytes 2 0 ++ beBytes 8 x ++ more) = .ok (.conditionsClearCard x) := by
  simp [decodeClear, param_byte, param_behind, param_serial _ h, checked, h]

theorem decodeScan_merchant {k : Nat} (h : merchantOk k = true) (more : List Byte) :
    decodeScan (beBytes 1 0 ++ beBytes 2 k ++ more) = .ok (.conditionScan .merchant k) := by
  simp [decodeScan, param_byte, param_behind, param_merchant _ h, checked, h]

theorem decodeScan_card {k : Nat} (h : k < 32768) (more : List Byte) :
    decodeScan (beBytes 1 1 ++ beBytes 2 k ++ more) = .ok (.conditionScan .card k) := by
  simp [decodeScan, param_byte, param_behind, param_word more (n := k) (by omega), checked, h]

/-- Decode and encode agree on every well-formed request, whatever bytes follow its last field (R191). The requests with a
decoder of their own go by its lemmas; the others read their fields one behind the other. -/
theorem decode_encode {i : Instr} (hw : WellFormed i = true) {code : Nat} {ps : List Byte}
    (he : encodeRequest i = some (code, ps)) (more : List Byte) : decodeRequest code (ps ++ more) = .ok i := by
  cases i
  case conditionScan kind k =>
    cases kind
    case merchant =>
      obtain ⟨rfl, rfl⟩ := Prod.mk.inj (Option.some.inj he)
      exact decodeScan_merchant hw more
    case card =>
      obtain ⟨rfl, rfl⟩ := Prod.mk.inj (Option.some.inj he)
      exact decodeScan_card (of_decide_eq_true hw) more
  case eventsClear flags =>
    obtain ⟨rfl, rfl⟩ := Prod.mk.inj (Option.some.inj he)
    simp [decodeRequest, param_byte _ flags.isLt]
  all_goals simp only [encodeRequest, reduceCtorEq, Option.some.injEq, Prod.mk.injEq] at he
  all_goals obtain ⟨rfl, rfl⟩ := he
  all_goals simp only [WellFormed, Bool.and_eq_true, decide_eq_true_eq] at hw
  case cardRetire => exact decodeRetire_bytes hw.1 hw.2 more
  case merchantEnrol => exact decodeSettings_bytes hw.1 hw.2 .merchantEnrol more
  case merchantUpdate => exact decodeSettings_bytes hw.1 hw.2 .merchantUpdate more
  case scheduleStage => exact decodeStage_bytes _ hw more
  case scheduleRead => exact decodeScheduleRead_bytes _ _ more
  case conditionsClearDevice => exact decodeClear_device more
  case conditionsClearMerchant => exact decodeClear_merchant hw more
  case conditionsClearAllMerchants => exact decodeClear_allMerchants more
  case conditionsClearCard => exact decodeClear_card hw more
  case limitsSetValue => exact decodeLimitsSet_value hw more
  case limitsSetMonitor => exact decodeLimitsSet_monitor hw more
  case limitsSetDevice => exact decodeLimitsSet_device hw more
  case limitsRead => exact decodeLimitsRead_bytes _ more
  case statementsRelease => simp [decodeRequest, param_byte more (lt_of_le_of_lt hw (by decide)), checked, hw]
  case totalsRead => simp [decodeRequest, param_byte more (lt_of_le_of_lt hw (by decide)), checked, hw]
  case cardInquire | holdInquire | merchantInquire | statementRead =>
    have page := param_byte more (lt_of_le_of_lt hw.2 (by decide))
    simp [decodeRequest, param_behind, param_serial, param_merchant, param_hold, checked, hw, page]
  all_goals
    simp [decodeRequest, param_behind, param_serial, param_merchant, param_hold, param_amount, param_time, checked,
      checkedAmount_good, hw]

/-! What acceptance makes of any code and parameter bytes (R186) -/

/-- A well-formed request whose frame carries a code. -/
structure Carried (code : Nat) (i : Instr) : Prop where
  wellFormed : WellFormed i = true
  request : isRequest i = true
  code : (encodeRequest i).map Prod.fst = some code

/-- A checked field lies in its range. -/
def fieldOk (ps : List Byte) (f : Nat × Nat × Nat × Nat) : Bool :=
  decide (f.2.2.1 ≤ param ps f.1 f.2.1) && decide (param ps f.1 f.2.1 ≤ f.2.2.2)

theorem fieldsInRange_iff (code : Nat) (ps : List Byte) :
    Machine.FieldsInRange code ps ↔ (Machine.checkedFields code ps).all (fieldOk ps) = true := by
  simp only [Machine.FieldsInRange, List.all_eq_true, fieldOk, Bool.and_eq_true, decide_eq_true_eq]

/-- The amount field of a request that has one is 0 (R1). -/
abbrev AmountZero (code : Nat) (ps : List Byte) : Prop := ∃ n ∈ Machine.amountAt code, param ps n 4 = 0

/-- The verdict of acceptance on a known code, by its checked fields and its amount (R1, R186; entry 11). -/
structure VerdictFits (code : Nat) (ps : List Byte) (v : Verdict) : Prop where
  known : v ≠ .unknown
  spelled : ∀ i, v = .ok i → Carried code i
  accepted : Machine.FieldsInRange code ps → ¬ AmountZero code ps → ∃ i, v = .ok i
  badAmount : Machine.FieldsInRange code ps → AmountZero code ps → v = .badAmount
  badParameter : ¬ Machine.FieldsInRange code ps → ¬ AmountZero code ps → v = .badParameter
  either : ¬ Machine.FieldsInRange code ps → AmountZero code ps → v = .badAmount ∨ v = .badParameter

section Verdicts

variable {code : Nat} {ps : List Byte} {i : Instr}

theorem not_amountZero (h : Machine.amountAt code = none) : ¬ AmountZero code ps := by
  rintro ⟨n, hn, -⟩
  rw [h] at hn
  cases hn

theorem not_fieldsInRange (h : (Machine.checkedFields code ps).all (fieldOk ps) = false) :
    ¬ Machine.FieldsInRange code ps := by
  rw [fieldsInRange_iff, h]
  exact Bool.false_ne_true

theorem VerdictFits.of_ok (hz : Machine.amountAt code = none)
    (hf : (Machine.checkedFields code ps).all (fieldOk ps) = true) (hc : Carried code i) :
    VerdictFits code ps (.ok i) where
  known := nofun
  spelled := fun j h => by cases h; exact hc
  accepted := fun _ _ => ⟨i, rfl⟩
  badAmount := fun _ h => absurd h (not_amountZero hz)
  badParameter := fun h => absurd ((fieldsInRange_iff _ _).2 hf) h
  either := fun h => absurd ((fieldsInRange_iff _ _).2 hf) h

theorem VerdictFits.of_bad (hf : (Machine.checkedFields code ps).all (fieldOk ps) = false) :
    VerdictFits code ps .badParameter where
  known := nofun
  spelled := nofun
  accepted := fun h => absurd h (not_fieldsInRange hf)
  badAmount := fun h => absurd h (not_fieldsInRange hf)
  badParameter := fun _ _ => rfl
  either := fun _ _ => .inr rfl

theorem VerdictFits.of_checked {good : Bool} (hz : Machine.amountAt code = none)
    (hf : (Machine.checkedFields code ps).all (fieldOk ps) = true ↔ good = true) (hc : good = true → Carried code i) :
    VerdictFits code ps (checked good i) := by
  unfold checked
  split
  · next h => exact .of_ok hz (hf.2 h) (hc h)
  · next h => exact .of_bad (Bool.eq_false_iff.2 (fun hr => h (hf.1 hr)))

theorem VerdictFits.of_checkedAmount {n : Nat} {good : Bool} (hz : Machine.amountAt code = some n)
    (hf : (Machine.checkedFields code ps).all (fieldOk ps) = true ↔ good = true)
    (hc : amountOk (param ps n 4) = true → good = true → Carried code i) :
    VerdictFits code ps (checkedAmount (param ps n 4) good i) := by
  rw [← fieldsInRange_iff] at hf
  have hzero : AmountZero code ps ↔ param ps n 4 = 0 := by simp [AmountZero, hz]
  unfold checkedAmount
  by_cases h0 : param ps n 4 = 0
  · have hyes := hzero.2 h0
    rw [if_pos h0]
    cases hg : good with
    | true =>
      rw [hg] at hf
      exact ⟨nofun, nofun, fun _ h => absurd hyes h, fun _ _ => rfl, fun h => absurd (hf.2 rfl) h,
        fun h => absurd (hf.2 rfl) h⟩
    | false =>
      have hno : ¬ Machine.FieldsInRange code ps := fun h => by rw [hf.1 h] at hg; cases hg
      cases Config.amountJudgedFirst
      · exact ⟨nofun, nofun, fun h => absurd h hno, fun h => absurd h hno, fun _ h => absurd hyes h, fun _ _ => .inr rfl⟩
      · exact ⟨nofun, nofun, fun h => absurd h hno, fun h => absurd h hno, fun _ h => absurd hyes h, fun _ _ => .inl rfl⟩
  · have hno : ¬ AmountZero code ps := fun h => h0 (hzero.1 h)
    have hamount : amountOk (param ps n 4) = true := (amountOk_iff _).2 ⟨h0, param_lt ps n 4⟩
    rw [if_neg h0]
    unfold checked
    split
    · next hg =>
      exact ⟨nofun, fun j h => by cases h; exact hc hamount hg, fun _ _ => ⟨i, rfl⟩, fun _ h => absurd h hno,
        fun h => absurd (hf.2 hg) h, fun h => absurd (hf.2 hg) h⟩
    · next hg =>
      exact ⟨nofun, nofun, fun h => absurd (hf.1 h) hg, fun _ h => absurd h hno, fun _ _ => rfl, fun _ h => absurd h hno⟩

end Verdicts

/-! The verdict on each code, by the shape of its checks -/

section Shapes

variable (ps : List Byte)

theorem timeOk_param (at' : Nat) : timeOk (param ps at' 4) = true := (timeOk_iff _).2 (param_lt ps at' 4)

/-- A value request on a card: its fields are a serial and a merchant, and an amount at byte 12 (R33, R35, R55, R57, R72). -/
theorem fits_value {code : Nat} {i : Instr} (h : code ∈ [0x10, 0x11, 0x20, 0x21, 0x25])
    (hc : serialOk (param ps 2 8) = true → merchantOk (param ps 10 2) = true → amountOk (param ps 12 4) = true →
      Carried code i) :
    VerdictFits code ps (checkedAmount (param ps 12 4) (serialOk (param ps 2 8) && merchantOk (param ps 10 2)) i) := by
  refine .of_checkedAmount (n := 12) (by rw [Machine.amountAt, if_pos h]) ?_ (fun ha hg => ?_)
  · rw [Machine.checkedFields, if_pos h]
    simp [fieldOk, serialOk_iff, merchantOk_iff]
  · rw [Bool.and_eq_true] at hg
    exact hc hg.1 hg.2 ha

/-- A request whose one checked field is a serial (R36, R37, R46). -/
theorem fits_serial {code : Nat} {i : Instr} (h : code ∈ [0x13, 0x14, 0x17])
    (hc : serialOk (param ps 2 8) = true → Carried code i) : VerdictFits code ps (checked (serialOk (param ps 2 8)) i) := by
  simp only [List.mem_cons, List.not_mem_nil, or_false] at h
  rcases h with rfl | rfl | rfl <;>
    exact .of_checked rfl (by simp [Machine.checkedFields, fieldOk, serialOk_iff]) hc

/-- A request whose one checked field is a merchant (R107, R108). -/
theorem fits_merchant {code : Nat} {i : Instr} (h : code ∈ [0x32, 0x33])
    (hc : merchantOk (param ps 2 2) = true → Carried code i) :
    VerdictFits code ps (checked (merchantOk (param ps 2 2)) i) := by
  simp only [List.mem_cons, List.not_mem_nil, or_false] at h
  rcases h with rfl | rfl <;>
    exact .of_checked rfl (by simp [Machine.checkedFields, fieldOk, merchantOk_iff]) hc

/-- Settings are read exactly where each of their four enumerated fields is 0 or 1, and their tolerance is that field. -/
theorem readSettings_cases :
    (readSettings ps = none ∧
      ¬ (param ps 4 1 ≤ 1 ∧ param ps 5 1 ≤ 1 ∧ param ps 8 1 ≤ 1 ∧ param ps 9 1 ≤ 1)) ∨
    ∃ st, readSettings ps = some st ∧ st.tolerance = param ps 6 2 ∧
      param ps 4 1 ≤ 1 ∧ param ps 5 1 ≤ 1 ∧ param ps 8 1 ≤ 1 ∧ param ps 9 1 ≤ 1 := by
  rw [← readSelect_isSome, ← readYesNo_isSome, ← readYesNo_isSome, ← readYesNo_isSome]
  unfold readSettings
  split
  · next hsel hpart hsales hrefunds => exact .inr ⟨_, rfl, rfl, by simp [hsel, hpart, hsales, hrefunds]⟩
  · next h =>
    refine .inl ⟨rfl, fun ⟨hsel, hpart, hsales, hrefunds⟩ => ?_⟩
    exact h _ _ _ _ (Option.some_get hsel).symm (Option.some_get hpart).symm (Option.some_get hsales).symm
      (Option.some_get hrefunds).symm

/-- An enrolment or an update (R104, R106). -/
theorem fits_settings {code : Nat} {mk : Nat → Settings → Instr} (h : code ∈ [0x30, 0x31])
    (hc : ∀ m st, merchantOk m = true → settingsOk st = true → Carried code (mk m st)) :
    VerdictFits code ps (decodeSettings ps mk) := by
  have fields : (Machine.checkedFields code ps).all (fieldOk ps) = true ↔
      param ps 2 2 ≤ 511 ∧ param ps 4 1 ≤ 1 ∧ param ps 5 1 ≤ 1 ∧ param ps 6 2 ≤ 5000 ∧ param ps 8 1 ≤ 1 ∧
        param ps 9 1 ≤ 1 := by
    simp only [List.mem_cons, List.not_mem_nil, or_false] at h
    rcases h with rfl | rfl <;> simp [Machine.checkedFields, fieldOk]
  have noAmount : Machine.amountAt code = none := by
    simp only [List.mem_cons, List.not_mem_nil, or_false] at h
    rcases h with rfl | rfl <;> rfl
  unfold decodeSettings
  rcases readSettings_cases ps with ⟨hnone, hbad⟩ | ⟨st, hsome, htol, hgood⟩
  · rw [hnone]
    refine .of_bad (Bool.eq_false_iff.2 (fun hf => hbad ?_))
    obtain ⟨-, h4, h5, -, h8, h9⟩ := fields.1 hf
    exact ⟨h4, h5, h8, h9⟩
  · rw [hsome]
    refine .of_checked noAmount ?_ (fun hg => ?_)
    · rw [fields, Bool.and_eq_true, merchantOk_iff, settingsOk, htol, decide_eq_true_eq]
      tauto
    · rw [Bool.and_eq_true] at hg
      exact hc _ _ hg.1 hg.2

end Shapes

section Codes

variable (ps : List Byte)

theorem fits_cardIssue : VerdictFits 0x10 ps (decodeRequest 0x10 ps) :=
  fits_value ps (by decide) (fun hx hm ha => ⟨by simp only [WellFormed, hx, hm, ha, timeOk_param, Bool.and_self], rfl, rfl⟩)

theorem fits_cardReload : VerdictFits 0x11 ps (decodeRequest 0x11 ps) :=
  fits_value ps (by decide) (fun hx hm ha => ⟨by simp only [WellFormed, hx, hm, ha, Bool.and_self], rfl, rfl⟩)

theorem fits_cardInquire : VerdictFits 0x12 ps (decodeRequest 0x12 ps) :=
  .of_checked rfl (by simp [Machine.checkedFields, fieldOk, serialOk_iff]) (fun hg => ⟨hg, rfl, rfl⟩)

theorem fits_cardLock : VerdictFits 0x13 ps (decodeRequest 0x13 ps) :=
  fits_serial ps (by decide) (fun hx => ⟨hx, rfl, rfl⟩)

theorem fits_cardUnlock : VerdictFits 0x14 ps (decodeRequest 0x14 ps) :=
  fits_serial ps (by decide) (fun hx => ⟨hx, rfl, rfl⟩)

theorem fits_cardRetire : VerdictFits 0x15 ps (decodeRequest 0x15 ps) := by
  show VerdictFits 0x15 ps (decodeRetire ps)
  have hrange := readReason_isSome (param ps 10 1)
  unfold decodeRetire
  cases hr : readReason (param ps 10 1) with
  | none =>
    rw [hr] at hrange
    exact .of_bad (by simpa [Machine.checkedFields, fieldOk] using fun _ _ => by simpa using hrange)
  | some r =>
    rw [hr] at hrange
    have hreason := readReason_ne hr
    refine .of_checked rfl ?_ (fun hx => ⟨by simp [WellFormed, hx, hreason], rfl, rfl⟩)
    simp [Machine.checkedFields, fieldOk, serialOk_iff, hrange.1 rfl]

theorem fits_cardTransfer : VerdictFits 0x16 ps (decodeRequest 0x16 ps) :=
  .of_checked rfl (by simp [Machine.checkedFields, fieldOk, serialOk_iff]) (fun hg => ⟨hg, rfl, rfl⟩)

theorem fits_cardPurge : VerdictFits 0x17 ps (decodeRequest 0x17 ps) :=
  fits_serial ps (by decide) (fun hx => ⟨hx, rfl, rfl⟩)

theorem fits_redeem : VerdictFits 0x20 ps (decodeRequest 0x20 ps) :=
  fits_value ps (by decide) (fun hx hm ha => ⟨by simp only [WellFormed, hx, hm, ha, Bool.and_self], rfl, rfl⟩)

theorem fits_holdPlace : VerdictFits 0x21 ps (decodeRequest 0x21 ps) :=
  fits_value ps (by decide) (fun hx hm ha => ⟨by simp only [WellFormed, hx, hm, ha, timeOk_param, Bool.and_self], rfl, rfl⟩)

theorem fits_holdComplete : VerdictFits 0x22 ps (decodeRequest 0x22 ps) :=
  .of_checkedAmount (n := 6) rfl (by simp [Machine.checkedFields, fieldOk, holdIdOk_iff, merchantOk_iff])
    (fun ha hg => ⟨by rw [WellFormed, hg, ha]; rfl, rfl, rfl⟩)

theorem fits_holdVoid : VerdictFits 0x23 ps (decodeRequest 0x23 ps) :=
  .of_checked rfl (by simp [Machine.checkedFields, fieldOk, holdIdOk_iff, merchantOk_iff]) (fun hg => ⟨hg, rfl, rfl⟩)

theorem fits_holdInquire : VerdictFits 0x24 ps (decodeRequest 0x24 ps) :=
  .of_checked rfl (by simp [Machine.checkedFields, fieldOk, holdIdOk_iff]) (fun hg => ⟨hg, rfl, rfl⟩)

theorem fits_refund : VerdictFits 0x25 ps (decodeRequest 0x25 ps) :=
  fits_value ps (by decide) (fun hx hm ha => ⟨by simp only [WellFormed, hx, hm, ha, Bool.and_self], rfl, rfl⟩)

theorem fits_merchantEnrol : VerdictFits 0x30 ps (decodeRequest 0x30 ps) :=
  fits_settings ps (by decide) (fun _ _ hm hs => ⟨by rw [WellFormed, hm, hs]; rfl, rfl, rfl⟩)

theorem fits_merchantUpdate : VerdictFits 0x31 ps (decodeRequest 0x31 ps) :=
  fits_settings ps (by decide) (fun _ _ hm hs => ⟨by rw [WellFormed, hm, hs]; rfl, rfl, rfl⟩)

theorem fits_merchantSuspend : VerdictFits 0x32 ps (decodeRequest 0x32 ps) :=
  fits_merchant ps (by decide) (fun hm => ⟨hm, rfl, rfl⟩)

theorem fits_merchantResume : VerdictFits 0x33 ps (decodeRequest 0x33 ps) :=
  fits_merchant ps (by decide) (fun hm => ⟨hm, rfl, rfl⟩)

theorem fits_merchantWithdraw : VerdictFits 0x34 ps (decodeRequest 0x34 ps) :=
  .of_checked rfl (by simp [Machine.checkedFields, fieldOk, merchantOk_iff, Nat.one_le_iff_ne_zero, and_comm])
    (fun hg => ⟨hg, rfl, rfl⟩)

theorem fits_merchantInquire : VerdictFits 0x35 ps (decodeRequest 0x35 ps) :=
  .of_checked rfl (by simp [Machine.checkedFields, fieldOk, merchantOk_iff]) (fun hg => ⟨hg, rfl, rfl⟩)

theorem fits_scheduleStage : VerdictFits 0x40 ps (decodeRequest 0x40 ps) := by
  show VerdictFits 0x40 ps (decodeStage ps)
  have hrange := readSelect_isSome (param ps 2 1)
  have fits : scheduleFits (readSchedule ps) = true := by
    have byte := param_lt ps 3 1
    have words := fun at' => param_lt ps at' 2
    have longs := fun at' => param_lt ps at' 5
    simp only [scheduleFits, Bool.and_eq_true, decide_eq_true_eq]
    exact ⟨⟨⟨⟨⟨⟨⟨⟨byte, longs 4⟩, longs 9⟩, longs 14⟩, words 19⟩, words 21⟩, words 23⟩, words 25⟩, words 27⟩
  unfold decodeStage
  cases hr : readSelect (param ps 2 1) with
  | none => rw [hr] at hrange; exact .of_bad (by simpa [Machine.checkedFields, fieldOk] using hrange)
  | some sel =>
    rw [hr] at hrange
    exact .of_ok rfl (by simp [Machine.checkedFields, fieldOk, hrange.1 rfl]) ⟨fits, rfl, rfl⟩

theorem fits_scheduleRead : VerdictFits 0x41 ps (decodeRequest 0x41 ps) := by
  show VerdictFits 0x41 ps (decodeScheduleRead ps)
  have hsel := readSelect_isSome (param ps 2 1)
  have hsrc := readSource_isSome (param ps 3 1)
  unfold decodeScheduleRead
  cases h1 : readSelect (param ps 2 1) with
  | none => rw [h1] at hsel; exact .of_bad (by simp [Machine.checkedFields, fieldOk, ← hsel])
  | some sel =>
    cases h2 : readSource (param ps 3 1) with
    | none => rw [h2] at hsrc; exact .of_bad (by simp [Machine.checkedFields, fieldOk, ← hsrc])
    | some src =>
      rw [h1] at hsel; rw [h2] at hsrc
      exact .of_ok rfl (by simp [Machine.checkedFields, fieldOk, hsel.1 rfl, hsrc.1 rfl]) ⟨rfl, rfl, rfl⟩

theorem fits_periodClose : VerdictFits 0x42 ps (decodeRequest 0x42 ps) := .of_ok rfl rfl ⟨rfl, rfl, rfl⟩

theorem fits_statementRead : VerdictFits 0x43 ps (decodeRequest 0x43 ps) :=
  .of_checked rfl (by simp [Machine.checkedFields, fieldOk, merchantOk_iff]) (fun hg => ⟨hg, rfl, rfl⟩)

theorem fits_statementsRelease : VerdictFits 0x44 ps (decodeRequest 0x44 ps) :=
  .of_checked rfl (by simp [Machine.checkedFields, fieldOk]) (fun hg => ⟨hg, rfl, rfl⟩)

theorem fits_totalsRead : VerdictFits 0x45 ps (decodeRequest 0x45 ps) :=
  .of_checked rfl (by simp [Machine.checkedFields, fieldOk]) (fun hg => ⟨hg, rfl, rfl⟩)

theorem fits_conditionsClear : VerdictFits 0x50 ps (decodeRequest 0x50 ps) := by
  show VerdictFits 0x50 ps (decodeClear ps)
  unfold decodeClear
  split
  · next h => exact .of_ok rfl (by simp [Machine.checkedFields, fieldOk, h]) ⟨rfl, rfl, rfl⟩
  · next h =>
    exact .of_checked rfl (by simp [Machine.checkedFields, fieldOk, h, merchantOk_iff]) (fun hg => ⟨hg, rfl, rfl⟩)
  · next h => exact .of_ok rfl (by simp [Machine.checkedFields, fieldOk, h]) ⟨rfl, rfl, rfl⟩
  · next h =>
    exact .of_checked rfl (by simp [Machine.checkedFields, fieldOk, h, serialOk_iff]) (fun hg => ⟨hg, rfl, rfl⟩)
  · next h0 h1 h2 h3 =>
    have high : 3 < param ps 2 1 := by simp only [imp_false] at h0 h1 h2 h3; omega
    exact .of_bad (by simp [Machine.checkedFields, fieldOk, high])

theorem fits_conditionScan : VerdictFits 0x51 ps (decodeRequest 0x51 ps) := by
  show VerdictFits 0x51 ps (decodeScan ps)
  unfold decodeScan
  split
  · next h =>
    exact .of_checked rfl (by simp [Machine.checkedFields, fieldOk, h, merchantOk_iff]) (fun hg => ⟨hg, rfl, rfl⟩)
  · next h =>
    exact .of_checked rfl (by simp [Machine.checkedFields, fieldOk, h, Nat.lt_succ_iff]) (fun hg => ⟨hg, rfl, rfl⟩)
  · next h0 h1 =>
    have high : 1 < param ps 2 1 := by simp only [imp_false] at h0 h1; omega
    exact .of_bad (by simp [Machine.checkedFields, fieldOk, high])

theorem fits_eventsRead : VerdictFits 0x52 ps (decodeRequest 0x52 ps) := .of_ok rfl rfl ⟨rfl, rfl, rfl⟩

theorem fits_eventsClear : VerdictFits 0x53 ps (decodeRequest 0x53 ps) := .of_ok rfl rfl ⟨rfl, rfl, rfl⟩

theorem fits_clockSet : VerdictFits 0x60 ps (decodeRequest 0x60 ps) := .of_ok rfl rfl ⟨timeOk_param ps 2, rfl, rfl⟩

theorem fits_clockRead : VerdictFits 0x61 ps (decodeRequest 0x61 ps) := .of_ok rfl rfl ⟨rfl, rfl, rfl⟩

/-- The DEVICE group is read exactly where its warning level and its alarm enable are in their encodings; it then fits its
widths (entry 15). -/
theorem readDevice_cases :
    (readDevice ps = none ∧ ¬ (param ps 3 1 ≤ 3 ∧ param ps 5 1 ≤ 1)) ∨
    ∃ d, readDevice ps = some d ∧ deviceFits d = true ∧ param ps 3 1 ≤ 3 ∧ param ps 5 1 ≤ 1 := by
  have operate : ∀ x : BitVec 6, x &&& 0b111000#6 &&& 0b000111#6 = 0#6 := by decide
  rw [← readWarning_isSome, ← readYesNo_isSome]
  unfold readDevice
  split
  · next hwarn hon =>
    have guard : param ps 4 1 < 256 := param_lt ps 4 1
    exact .inr ⟨_, rfl, by simp [deviceFits, operate, timeOk_param, guard], by simp [hwarn, hon]⟩
  · next h =>
    refine .inl ⟨rfl, fun ⟨hwarn, hon⟩ => ?_⟩
    exact h _ _ (Option.some_get hwarn).symm (Option.some_get hon).symm

theorem fits_limitsSet : VerdictFits 0x62 ps (decodeRequest 0x62 ps) := by
  show VerdictFits 0x62 ps (decodeLimitsSet ps)
  have hrange := readGroup_isSome (param ps 2 1)
  unfold decodeLimitsSet
  split
  · next hr => rw [hr] at hrange; exact .of_bad (by simp [Machine.checkedFields, fieldOk, ← hrange])
  · next hr =>
    exact .of_ok rfl (by simp [Machine.checkedFields, fieldOk, readGroup_eq hr, groupCode])
      ⟨by simp only [WellFormed, valueFits, timeOk_param, Bool.and_self], rfl, rfl⟩
  · next hr =>
    have bytes := fun at' => param_lt ps at' 1
    have words := fun at' => param_lt ps at' 2
    have longs := fun at' => param_lt ps at' 5
    refine .of_ok rfl (by simp [Machine.checkedFields, fieldOk, readGroup_eq hr, groupCode]) ⟨?_, rfl, rfl⟩
    simp only [WellFormed, monitorFits, timeOk_param, Bool.and_eq_true, decide_eq_true_eq]
    exact ⟨⟨⟨⟨⟨⟨⟨words 3, longs 5⟩, trivial⟩, longs 14⟩, bytes 19⟩, trivial⟩, words 24⟩, words 26⟩
  · next hr =>
    rcases readDevice_cases ps with ⟨hnone, hbad⟩ | ⟨d, hsome, hfits, hgood⟩
    · rw [hnone]
      exact .of_bad (by simpa [Machine.checkedFields, fieldOk, readGroup_eq hr, groupCode] using hbad)
    · rw [hsome]
      exact .of_ok rfl (by simp [Machine.checkedFields, fieldOk, readGroup_eq hr, groupCode, hgood]) ⟨hfits, rfl, rfl⟩

theorem fits_limitsRead : VerdictFits 0x63 ps (decodeRequest 0x63 ps) := by
  show VerdictFits 0x63 ps (decodeLimitsRead ps)
  have hrange := readGroup_isSome (param ps 2 1)
  unfold decodeLimitsRead
  cases hr : readGroup (param ps 2 1) with
  | none => rw [hr] at hrange; exact .of_bad (by simpa [Machine.checkedFields, fieldOk] using hrange)
  | some g =>
    rw [hr] at hrange
    exact .of_ok rfl (by simp [Machine.checkedFields, fieldOk, hrange.1 rfl]) ⟨rfl, rfl, rfl⟩

/-- The verdict of acceptance on each of the 34 codes of R190. -/
theorem decodeRequest_fits : ∀ code ∈ Machine.requestCodes, VerdictFits code ps (decodeRequest code ps) := by
  simp only [Machine.requestCodes, List.forall_mem_cons]
  exact ⟨fits_cardIssue ps, fits_cardReload ps, fits_cardInquire ps, fits_cardLock ps, fits_cardUnlock ps,
    fits_cardRetire ps, fits_cardTransfer ps, fits_cardPurge ps, fits_redeem ps, fits_holdPlace ps, fits_holdComplete ps,
    fits_holdVoid ps, fits_holdInquire ps, fits_refund ps, fits_merchantEnrol ps, fits_merchantUpdate ps,
    fits_merchantSuspend ps, fits_merchantResume ps, fits_merchantWithdraw ps, fits_merchantInquire ps,
    fits_scheduleStage ps, fits_scheduleRead ps, fits_periodClose ps, fits_statementRead ps, fits_statementsRelease ps,
    fits_totalsRead ps, fits_conditionsClear ps, fits_conditionScan ps, fits_eventsRead ps, fits_eventsClear ps,
    fits_clockSet ps, fits_clockRead ps, fits_limitsSet ps, fits_limitsRead ps, nofun⟩

/-- No other code is a request. -/
theorem decodeRequest_other {code : Nat} (h : code ∉ Machine.requestCodes) : decodeRequest code ps = .unknown := by
  unfold decodeRequest
  split
  case h_35 => rfl
  all_goals exact absurd (by decide) h

/-- What acceptance takes for a request is well formed and carried by its code. -/
theorem decodeRequest_carried {code : Nat} {ps : List Byte} {i : Instr} (h : decodeRequest code ps = .ok i) :
    Carried code i := by
  by_cases hc : code ∈ Machine.requestCodes
  · exact (decodeRequest_fits ps code hc).spelled i h
  · rw [decodeRequest_other ps hc] at h; cases h

end Codes

/-! Whole frames -/

/-- What is shown constructor by constructor holds of every command. -/
theorem encodes : ∀ i : Instr, Laws.Encodes.Statement i
  | .nselFall => Laws.Encodes.nselFall
  | .nselRise _ => Laws.Encodes.nselRise _
  | .tick => Laws.Encodes.tick
  | .expiryPosting => Laws.Encodes.expiryPosting
  | .alarmCutover => Laws.Encodes.alarmCutover
  | .statementStep => Laws.Encodes.statementStep
  | .latchPosting => Laws.Encodes.latchPosting
  | .nresetFall => Laws.Encodes.nresetFall
  | .nresetRelease _ => Laws.Encodes.nresetRelease _
  | .powerUp _ _ => Laws.Encodes.powerUp _ _
  | .supplyStop _ => Laws.Encodes.supplyStop _
  | .supplyBelowWarning _ => Laws.Encodes.supplyBelowWarning _
  | .supplyAboveRecovery _ => Laws.Encodes.supplyAboveRecovery _
  | .guardTimerRunsOut _ => Laws.Encodes.guardTimerRunsOut _
  | .cardIssue _ _ _ _ => Laws.Encodes.cardIssue _ _ _ _
  | .cardReload _ _ _ => Laws.Encodes.cardReload _ _ _
  | .cardInquire _ _ => Laws.Encodes.cardInquire _ _
  | .cardLock _ => Laws.Encodes.cardLock _
  | .cardUnlock _ => Laws.Encodes.cardUnlock _
  | .cardRetire _ _ => Laws.Encodes.cardRetire _ _
  | .cardTransfer _ _ => Laws.Encodes.cardTransfer _ _
  | .cardPurge _ => Laws.Encodes.cardPurge _
  | .redeem _ _ _ => Laws.Encodes.redeem _ _ _
  | .holdPlace _ _ _ _ => Laws.Encodes.holdPlace _ _ _ _
  | .holdComplete _ _ _ => Laws.Encodes.holdComplete _ _ _
  | .holdVoid _ _ => Laws.Encodes.holdVoid _ _
  | .holdInquire _ _ => Laws.Encodes.holdInquire _ _
  | .refund _ _ _ => Laws.Encodes.refund _ _ _
  | .merchantEnrol _ _ => Laws.Encodes.merchantEnrol _ _
  | .merchantUpdate _ _ => Laws.Encodes.merchantUpdate _ _
  | .merchantSuspend _ => Laws.Encodes.merchantSuspend _
  | .merchantResume _ => Laws.Encodes.merchantResume _
  | .merchantWithdraw _ => Laws.Encodes.merchantWithdraw _
  | .merchantInquire _ _ => Laws.Encodes.merchantInquire _ _
  | .scheduleStage _ _ => Laws.Encodes.scheduleStage _ _
  | .scheduleRead _ _ => Laws.Encodes.scheduleRead _ _
  | .periodClose => Laws.Encodes.periodClose
  | .statementRead _ _ => Laws.Encodes.statementRead _ _
  | .statementsRelease _ => Laws.Encodes.statementsRelease _
  | .totalsRead _ => Laws.Encodes.totalsRead _
  | .conditionsClearDevice => Laws.Encodes.conditionsClearDevice
  | .conditionsClearMerchant _ => Laws.Encodes.conditionsClearMerchant _
  | .conditionsClearAllMerchants => Laws.Encodes.conditionsClearAllMerchants
  | .conditionsClearCard _ => Laws.Encodes.conditionsClearCard _
  | .conditionScan _ _ => Laws.Encodes.conditionScan _ _
  | .eventsRead => Laws.Encodes.eventsRead
  | .eventsClear _ => Laws.Encodes.eventsClear _
  | .clockSet _ => Laws.Encodes.clockSet _
  | .clockRead => Laws.Encodes.clockRead
  | .limitsSetValue _ => Laws.Encodes.limitsSetValue _
  | .limitsSetMonitor _ => Laws.Encodes.limitsSetMonitor _
  | .limitsSetDevice _ => Laws.Encodes.limitsSetDevice _
  | .limitsRead _ => Laws.Encodes.limitsRead _
  | .postingEnd _ => Laws.Encodes.postingEnd _

theorem requestFrame_spelled {i : Instr} (hw : WellFormed i = true) (hr : isRequest i = true) (tag : Byte) :
    rightLength (requestFrame tag i) = true ∧ goodCrc (requestFrame tag i) = true ∧
    ∃ code rest, toBytes (requestFrame tag i) = code :: tag :: rest ∧ code ≠ 0x00#8 ∧
      decodeRequest code.toNat (rest.take 28) = .ok i := by
  obtain ⟨hsome, hfit⟩ := encodes i
  obtain ⟨⟨code, ps⟩, he⟩ := Option.isSome_iff_exists.1 (hsome.trans hr)
  obtain ⟨hpos, hbyte, hlen⟩ := hfit code ps he
  have hpad : (padParams ps).length = 28 := by rw [padParams, List.length_append, List.length_replicate]; omega
  have hcode : (BitVec.ofNat 8 code).toNat = code := by rw [BitVec.toNat_ofNat, Nat.mod_eq_of_lt hbyte]
  have hframe : requestFrame tag i = frameBits (BitVec.ofNat 8 code :: tag :: padParams ps) := by
    rw [requestFrame, he]
  obtain ⟨hlength, hcrc, hbytes⟩ := frameBits_good (BitVec.ofNat 8 code :: tag :: padParams ps) (by simp [hpad])
  rw [List.cons_append, List.cons_append] at hbytes
  rw [hframe]
  refine ⟨hlength, hcrc, _, _, hbytes, fun h0 => ?_, ?_⟩
  · rw [h0] at hcode
    exact hpos.ne hcode
  · rw [hcode, List.take_append_of_le_length hpad.ge, List.take_of_length_le hpad.le]
    exact decode_encode hw he _

/-- Settles O3: every well-formed request is read back from its frame, and the verdict of acceptance is taken code by
code. -/
theorem requestFramesSpelledAndChecked : Obligations.RequestFramesSpelledAndChecked := by
  unfold Obligations.RequestFramesSpelledAndChecked
  refine ⟨fun i tag hw hr => requestFrame_spelled hw hr tag, fun i code ps more hw he => decode_encode hw he more,
    fun code ps => ⟨⟨fun hu hc => ?_, decodeRequest_other ps⟩, fun i h => ?_, fun hc => ?_⟩⟩
  · exact (decodeRequest_fits ps code hc).known hu
  · obtain ⟨wellFormed, request, carried⟩ := decodeRequest_carried h
    exact ⟨wellFormed, request, carried⟩
  · have fits := decodeRequest_fits ps code hc
    exact ⟨fits.accepted, fits.badAmount, fits.badParameter, fits.either⟩

end Sys2Proof
end

section
/-! PROOFS. Refusals inside a posting (R9, R51, R82): whatever the request, a judgement either approves or hands its
change-set back as it was. -/

namespace Sys2Proof.Machine

/-- The results of a posting that may change something. -/
def approves : Result → Bool
  | .ok => true
  | .partialApproval => true
  | .deferred => true
  | .holdExpired => true
  | _ => false

/-- A judgement of a change-set that approves, or changes nothing (R51). -/
def ApprovedOrSame (d : Draft) (j : Judged) : Prop := approves j.2.result = true ∨ j.1 = d

theorem ApprovedOrSame.same {d : Draft} {j : Judged} (h : ApprovedOrSame d j) (h1 : j.2.result ≠ .ok)
    (h2 : j.2.result ≠ .partialApproval) (h3 : j.2.result ≠ .deferred) (h4 : j.2.result ≠ .holdExpired) : j.1 = d := by
  refine h.resolve_left (fun ha => ?_)
  unfold approves at ha
  split at ha <;> contradiction

/-- A refusal hands the change-set back. -/
theorem refused_same (d : Draft) (a : Answer) : ApprovedOrSame d (d, a) := .inr rfl

/-- An approval may change it. -/
theorem approved_ok (d e : Draft) (body : Body) : ApprovedOrSame d (e, answer .ok body) := .inl rfl

theorem approved_amount (d e : Draft) (x amount : Nat) (body : Body) :
    ApprovedOrSame d (e, answer (approvalResult x amount) body) := by
  left
  show approves (approvalResult x amount) = true
  unfold approvalResult
  split <;> rfl

section Requests

variable (d : Draft)

theorem same_postCardIssue (x m a v : Nat) : ApprovedOrSame d (postCardIssue x m a v d) := by
  unfold postCardIssue
  simp only
  (repeat' split) <;> first
    | exact refused_same _ _
    | exact approved_ok _ _ _

theorem same_postCardReload (x m a : Nat) : ApprovedOrSame d (postCardReload x m a d) := by
  unfold postCardReload
  (repeat' split) <;> first
    | exact refused_same _ _
    | exact approved_ok _ _ _

theorem same_postRefund (x m a : Nat) : ApprovedOrSame d (postRefund x m a d) := by
  unfold postRefund
  (repeat' split) <;> first
    | exact refused_same _ _
    | exact approved_ok _ _ _

theorem same_postCardLock (x : Nat) : ApprovedOrSame d (postCardLock x d) := by
  unfold postCardLock
  (repeat' split) <;> first
    | exact refused_same _ _
    | exact approved_ok _ _ _

theorem same_postCardUnlock (x : Nat) : ApprovedOrSame d (postCardUnlock x d) := by
  unfold postCardUnlock
  (repeat' split) <;> first
    | exact refused_same _ _
    | exact approved_ok _ _ _

theorem same_postCardRetire (x : Nat) (r : RetireReason) : ApprovedOrSame d (postCardRetire x r d) := by
  unfold postCardRetire
  split
  · exact refused_same _ _
  · split
    · exact refused_same _ _
    · split
      · exact approved_ok _ _ _
      · exact .inl rfl

theorem same_transferToNew (x : Nat) (source : Card) (target : Nat) (free : Option Nat) :
    ApprovedOrSame d (transferToNew x source target free d) := by
  unfold transferToNew
  (repeat' split) <;> first
    | exact refused_same _ _
    | exact approved_ok _ _ _

theorem same_transferToCard (x : Nat) (source : Card) (y : Nat) (target : Card) :
    ApprovedOrSame d (transferToCard x source y target d) := by
  unfold transferToCard
  (repeat' split) <;> first
    | exact refused_same _ _
    | exact approved_ok _ _ _

theorem same_postCardTransfer (x y : Nat) : ApprovedOrSame d (postCardTransfer x y d) := by
  unfold postCardTransfer
  (repeat' split) <;> first
    | exact refused_same _ _
    | exact same_transferToCard _ _ _ _ _
    | exact same_transferToNew _ _ _ _ _

theorem same_postCardPurge (x : Nat) : ApprovedOrSame d (postCardPurge x d) := by
  unfold postCardPurge
  (repeat' split) <;> first
    | exact refused_same _ _
    | exact approved_ok _ _ _

theorem same_postRedeem (x m a : Nat) : ApprovedOrSame d (postRedeem x m a d) := by
  unfold postRedeem
  (repeat' split) <;> first
    | exact refused_same _ _
    | exact approved_amount _ _ _ _ _

theorem same_postHoldPlace (x m a l : Nat) : ApprovedOrSame d (postHoldPlace x m a l d) := by
  unfold postHoldPlace
  (repeat' split) <;> first
    | exact refused_same _ _
    | exact approved_amount _ _ _ _ _

theorem same_completeOver (h : Hold) (c : Card) (a : Nat) (p : Bool) : ApprovedOrSame d (completeOver d h c a p) := by
  unfold completeOver
  split
  · exact approved_ok _ _ _
  · split
    · exact .inl rfl
    · exact refused_same _ _

theorem same_completeHold (h : Hold) (c : Card) (a : Nat) : ApprovedOrSame d (completeHold d h c a) := by
  unfold completeHold
  split
  · exact .inl rfl
  · split
    · exact refused_same _ _
    · split
      · exact approved_ok _ _ _
      · exact same_completeOver _ _ _ _ _

theorem same_postHoldComplete (h m a : Nat) : ApprovedOrSame d (postHoldComplete h m a d) := by
  unfold postHoldComplete
  (repeat' split) <;> first
    | exact refused_same _ _
    | exact same_completeHold _ _ _ _

theorem same_postHoldVoid (h m : Nat) : ApprovedOrSame d (postHoldVoid h m d) := by
  unfold postHoldVoid
  split
  · exact refused_same _ _
  · split
    · exact refused_same _ _
    · split
      · exact refused_same _ _
      · split
        · exact .inl rfl
        · exact approved_ok _ _ _

theorem same_postMerchantEnrol (m : Nat) (st : Settings) : ApprovedOrSame d (postMerchantEnrol m st d) := by
  unfold postMerchantEnrol
  simp only
  split <;> first
    | exact refused_same _ _
    | exact approved_ok _ _ _

theorem same_postMerchantUpdate (m : Nat) (st : Settings) : ApprovedOrSame d (postMerchantUpdate m st d) := by
  unfold postMerchantUpdate
  split <;> first
    | exact refused_same _ _
    | exact approved_ok _ _ _

theorem same_postMerchantSuspend (m : Nat) : ApprovedOrSame d (postMerchantSuspend m d) := by
  unfold postMerchantSuspend
  split <;> first
    | exact refused_same _ _
    | exact approved_ok _ _ _

theorem same_postMerchantResume (m : Nat) : ApprovedOrSame d (postMerchantResume m d) := by
  unfold postMerchantResume
  split <;> first
    | exact refused_same _ _
    | exact approved_ok _ _ _

theorem same_postMerchantWithdraw (m : Nat) : ApprovedOrSame d (postMerchantWithdraw m d) := by
  unfold postMerchantWithdraw withdrawTrading
  simp only
  (repeat' split) <;> first
    | exact refused_same _ _
    | exact approved_ok _ _ _

theorem same_postScheduleStage (sel : Select) (sc : Schedule) : ApprovedOrSame d (postScheduleStage sel sc d) := by
  unfold postScheduleStage
  split
  · exact approved_ok _ _ _
  · exact refused_same _ _

theorem same_postPeriodClose : ApprovedOrSame d (postPeriodClose d) := by
  unfold postPeriodClose
  simp only
  split
  · exact approved_ok _ _ _
  · exact refused_same _ _

theorem same_postStatementsRelease (q : Nat) : ApprovedOrSame d (postStatementsRelease q d) := by
  unfold postStatementsRelease
  simp only
  (repeat' split) <;> first
    | exact refused_same _ _
    | exact approved_ok _ _ _

theorem same_postClearCard (x : Nat) : ApprovedOrSame d (postClearCard x d) := by
  unfold postClearCard
  split
  · exact refused_same _ _
  · exact approved_ok _ _ _

theorem same_postLimitsValue (l : ValueLimits) : ApprovedOrSame d (postLimitsValue l d) := by
  unfold postLimitsValue
  split
  · exact approved_ok _ _ _
  · exact refused_same _ _

theorem same_postLimitsMonitor (l : MonitorLimits) : ApprovedOrSame d (postLimitsMonitor l d) := by
  unfold postLimitsMonitor
  split
  · exact approved_ok _ _ _
  · exact refused_same _ _

theorem same_postLimitsDevice (l : DeviceLimits) : ApprovedOrSame d (postLimitsDevice l d) := by
  unfold postLimitsDevice
  split
  · exact approved_ok _ _ _
  · exact refused_same _ _

/-- Every row of the Posting class is a grant whose judgement approves or changes nothing. -/
theorem exec_posting_same {i : Instr} (hq : isRequest i = true) (hr : isRead i = false) :
    ∃ body, (∀ s, exec i s = .next (grantLink (readsServed s) i body)) ∧ ∀ d, ApprovedOrSame d (body d) := by
  cases i <;> simp only [isRequest, isRead, Bool.false_eq_true, reduceCtorEq] at hq hr
  case cardIssue => exact ⟨_, fun _ => rfl, fun _ => same_postCardIssue _ _ _ _ _⟩
  case cardReload => exact ⟨_, fun _ => rfl, fun _ => same_postCardReload _ _ _ _⟩
  case cardLock => exact ⟨_, fun _ => rfl, fun _ => same_postCardLock _ _⟩
  case cardUnlock => exact ⟨_, fun _ => rfl, fun _ => same_postCardUnlock _ _⟩
  case cardRetire => exact ⟨_, fun _ => rfl, fun _ => same_postCardRetire _ _ _⟩
  case cardTransfer => exact ⟨_, fun _ => rfl, fun _ => same_postCardTransfer _ _ _⟩
  case cardPurge => exact ⟨_, fun _ => rfl, fun _ => same_postCardPurge _ _⟩
  case redeem => exact ⟨_, fun _ => rfl, fun _ => same_postRedeem _ _ _ _⟩
  case holdPlace => exact ⟨_, fun _ => rfl, fun _ => same_postHoldPlace _ _ _ _ _⟩
  case holdComplete => exact ⟨_, fun _ => rfl, fun _ => same_postHoldComplete _ _ _ _⟩
  case holdVoid => exact ⟨_, fun _ => rfl, fun _ => same_postHoldVoid _ _ _⟩
  case refund => exact ⟨_, fun _ => rfl, fun _ => same_postRefund _ _ _ _⟩
  case merchantEnrol => exact ⟨_, fun _ => rfl, fun _ => same_postMerchantEnrol _ _ _⟩
  case merchantUpdate => exact ⟨_, fun _ => rfl, fun _ => same_postMerchantUpdate _ _ _⟩
  case merchantSuspend => exact ⟨_, fun _ => rfl, fun _ => same_postMerchantSuspend _ _⟩
  case merchantResume => exact ⟨_, fun _ => rfl, fun _ => same_postMerchantResume _ _⟩
  case merchantWithdraw => exact ⟨_, fun _ => rfl, fun _ => same_postMerchantWithdraw _ _⟩
  case scheduleStage => exact ⟨_, fun _ => rfl, fun _ => same_postScheduleStage _ _ _⟩
  case periodClose => exact ⟨_, fun _ => rfl, fun _ => same_postPeriodClose _⟩
  case statementsRelease => exact ⟨_, fun _ => rfl, fun _ => same_postStatementsRelease _ _⟩
  case conditionsClearDevice => exact ⟨_, fun _ => rfl, fun _ => approved_ok _ _ _⟩
  case conditionsClearMerchant => exact ⟨_, fun _ => rfl, fun _ => approved_ok _ _ _⟩
  case conditionsClearAllMerchants => exact ⟨_, fun _ => rfl, fun _ => approved_ok _ _ _⟩
  case conditionsClearCard => exact ⟨_, fun _ => rfl, fun _ => same_postClearCard _ _⟩
  case limitsSetValue => exact ⟨_, fun _ => rfl, fun _ => same_postLimitsValue _ _⟩
  case limitsSetMonitor => exact ⟨_, fun _ => rfl, fun _ => same_postLimitsMonitor _ _⟩
  case limitsSetDevice => exact ⟨_, fun _ => rfl, fun _ => same_postLimitsDevice _ _⟩

end Requests

/-- The request of a slot is one that a frame carries: acceptance read it from the slot's code. -/
theorem isRequest_of_requestOf {q : Slot} {i : Instr} (h : requestOf q = some i) : isRequest i = true := by
  unfold requestOf at h
  split at h
  case h_1 j hj =>
    obtain rfl := Option.some.inj h
    exact (decodeRequest_carried hj).request
  all_goals cases h

/-- Settles O53: the judgement of every request approves, or hands back the change-set it was given. -/
theorem refusalsChangeNothing : Obligations.RefusalsChangeNothing := by
  unfold Obligations.RefusalsChangeNothing
  intro s i q hg
  obtain ⟨-, hread⟩ := hg.slot
  have ⟨_, _, hrequest, hwaits⟩ := hg
  obtain ⟨body, he, hsame⟩ := exec_posting_same (isRequest_of_requestOf hrequest) hread
  refine ⟨_, _, ?_, (hsame (startDraft s)).same⟩
  rw [he, readsServed_none hwaits, grantLink_granted hg]

end Sys2Proof.Machine
end

section
/-! PROOFS. The Mall Clock (R8, R10, R12, R68, R128): an advance as a whole, TICK and CLOCK_SET. -/

namespace Sys2Proof.Machine

/-! An advance -/

/-- An advance passes the alarm exactly when a second it passes has the alarm's time of day (R128). -/
theorem passesAlarm_iff {a t t' : Nat} (ha : a < 86400) :
    passesAlarm a t t' = true ↔ ∃ k, t < k ∧ k ≤ t' ∧ k % 86400 = a := by
  rw [passesAlarm, decide_eq_true_eq]
  unfold alarmsUpTo
  constructor
  · intro h
    exact ⟨86400 * ((t' + 86400 - a) / 86400 - 1) + a, by omega, by omega, by omega⟩
  · rintro ⟨k, htk, hkt, hk⟩
    omega

/-- The second a tick passes is the one it arrives at. -/
theorem passesAlarm_succ {a t : Nat} (ha : a < 86400) : passesAlarm a t (t + 1) = decide ((t + 1) % 86400 = a) := by
  rw [Bool.eq_iff_iff, passesAlarm_iff ha, decide_eq_true_eq]
  constructor
  · rintro ⟨k, htk, hkt, hk⟩
    rwa [show t + 1 = k by omega]
  · exact fun h => ⟨t + 1, by omega, le_rfl, h⟩

/-- The close alarm's test fires the alarm, and tells the posting in flight, or does nothing (R125, R128). -/
theorem alarmTest_eq (s : State) (t t' : Nat) : alarmTest s t t' =
    let fires := s.records.limits.device.alarmEnable && passesAlarm s.records.limits.device.alarmTime t t'
    { s with
      alarmPending := s.alarmPending || fires
      posting := if fires then s.posting.map (fun p => { p with alarmFired := true }) else s.posting } := by
  unfold alarmTest
  cases s.records.limits.device.alarmEnable && passesAlarm s.records.limits.device.alarmTime t t' with
  | false => simp
  | true => simp [fireAlarm]

/-- An advance of a SET clock: its value, the close alarm, and the Expiry Unit's test at the new value (R12). -/
theorem advance_eq {s : State} (hset : s.clock.state = .set) (v : Nat) : advance s v =
    let fires := s.records.limits.device.alarmEnable &&
      passesAlarm s.records.limits.device.alarmTime s.clock.value v
    { s with
      clock := { s.clock with value := v }
      alarmPending := s.alarmPending || fires
      posting := if fires then s.posting.map (fun p => { p with alarmFired := true }) else s.posting
      expiryWaiting :=
        if running s = true ∧ s.expiryWaiting = none then
          (s.records.holds.head?.filter (fun h => decide (h.deadline ≤ v))).map Hold.id
        else s.expiryWaiting } := by
  unfold advance
  rw [expiryTest_eq, alarmTest_eq]
  simp [running, hset, setValue]

/-! TICK -/

/-- A tick that counts is an advance by one second (R8). -/
theorem tickClock_counts {s : State} (hp : s.powered = true) (hd : s.clock.dividerRunning = true)
    (hset : s.clock.state = .set) (hv : s.clock.value < 4294967295) : tickClock s = advance s (s.clock.value + 1) := by
  unfold tickClock
  rw [if_pos]
  simp [hp, hd, hset, Config.maxTime, hv]

/-- A clock at its maximum, UNSET, with its divider standing or its device stopped does not count (R8, R13). -/
theorem tickClock_stands {s : State} (h : s.clock.value = 4294967295 ∨ s.clock.state = .unset ∨
    s.clock.dividerRunning = false ∨ s.powered = false) : tickClock s = s := by
  unfold tickClock
  rw [if_neg]
  rcases h with h | h | h | h <;> simp [h, Config.maxTime]

/-- Settles O9: a tick that counts is an advance to the next second. -/
theorem tickRaisesTheClock : Obligations.TickRaisesTheClock := by
  unfold Obligations.TickRaisesTheClock
  intro s hwaits
  have row : exec .tick s = .next (tickClock s) := by
    rw [← congrArg tickClock (readsServed_none hwaits)]
    rfl
  refine ⟨fun hp hd ha hset hv => ?_, fun h => ?_⟩
  · rw [row, tickClock_counts hp hd hset hv, advance_eq hset, passesAlarm_succ ha]
  · rw [row, tickClock_stands h]

end Sys2Proof.Machine
end

section
/-! PROOFS. An answer that lets no other slot go on, and CLOCK_SET (R10, R85, R86, R128). -/

namespace Sys2Proof.Machine

/-! Slots that wait -/

/-- Dropping elements that do not end a walk from the front drops them from the walk. -/
theorem takeWhile_filter {α : Type} (keep go : α → Bool) (h : ∀ x, go x = false → keep x = true) (l : List α) :
    (l.filter keep).takeWhile go = (l.takeWhile go).filter keep := by
  induction l with
  | nil => rfl
  | cons x rest ih =>
    cases hk : keep x with
    | true => cases hg : go x <;> simp [hk, hg, ih]
    | false =>
      have hg : go x = true := by
        cases hg : go x with
        | true => rfl
        | false => rw [h x hg] at hk; cases hk
      simp [hk, hg, ih]

/-- The slots before another slot, after one is answered. -/
theorem earlier_answered {s t : State} {q x : Slot} {a : Answer} (hport : t.port = s.port) (hne : x.place ≠ q.place) :
    earlier (answerSlot t q a) x = (earlier s x).filter (fun p => decide (p.place ≠ q.place)) := by
  unfold earlier
  rw [answerSlot_port, hport]
  refine takeWhile_filter _ _ (fun p hp => ?_) _
  have hplace : p.place = x.place := by simpa using hp
  simpa [hplace] using hne

/-- In a port whose places rise, two slots in one place are one slot (R183). -/
theorem SlotsOk.place_inj {p : LinkPort} (h : SlotsOk p) {x y : Slot} (hx : x ∈ p.accepted) (hy : y ∈ p.accepted)
    (he : x.place = y.place) : x = y := List.inj_on_of_nodup_map h.accepted_nodup hx hy he

/-- The answer of a slot leaves another slot, which names no serial of it, as eligible as it was (R85). -/
theorem eligible_answered {s t : State} {q x : Slot} {a : Answer} (hok : SlotsOk s.port) (hq : q ∈ s.port.accepted)
    (hport : t.port = s.port) (hne : x.place ≠ q.place) (hshare : shareSerial q x = false) :
    eligible (answerSlot t q a) x = eligible s x := by
  unfold eligible
  rw [earlier_answered hport hne, Bool.eq_iff_iff, List.all_eq_true, List.all_eq_true]
  refine ⟨fun h p hp => ?_, fun h p hp => h p (List.mem_of_mem_filter hp)⟩
  by_cases hpq : p.place = q.place
  · have hmem : p ∈ s.port.accepted := (List.takeWhile_sublist _).subset hp
    rw [hok.place_inj hmem hq hpq, hshare]; rfl
  · exact h p (List.mem_filter.2 ⟨hp, decide_eq_true hpq⟩)

/-- A slot waits: it is not eligible, or it holds no read, and no request of the Posting class that is answered where no
grant can be made (R86, R92, R93). -/
def Waits (s : State) (q : Slot) : Prop :=
  eligible s q = true → isReadSlot q = false ∧
    (isPostingSlot q = true → inFlight s q = true ∨ s.supply ≠ some .parked ∧ s.clock.state = .set)

theorem blockedAnswer_none_iff (s : State) :
    blockedAnswer s = none ↔ s.supply ≠ some .parked ∧ s.clock.state = .set := by
  unfold blockedAnswer
  by_cases hp : s.supply = some .parked
  · simp [hp]
  · cases s.clock.state <;> simp [hp]

/-- A command is no read exactly when it is not served. -/
theorem serve_eq_none_iff (i : Instr) (s : State) : serve i s = none ↔ isRead i = false := by
  rw [isRead_iff_serve i s, Option.isSome_eq_false_iff, Option.isNone_iff_eq_none]

/-- A slot that waits stays in a settling. -/
theorem settleOne_stays {s : State} {x : Slot} (h : Waits s x) : settleOne s x = s := by
  unfold settleOne
  split
  · rfl
  · next he =>
    obtain ⟨hread, hposting⟩ := h (by simpa using he)
    split
    · rfl
    · next i hi =>
      simp only [isReadSlot, isPostingSlot, hi] at hread hposting
      rw [(serve_eq_none_iff i s).2 hread]
      rcases hposting (by rw [hread]; rfl) with hflight | hgrant
      · simp only [hflight, if_true]
      · simp only [(blockedAnswer_none_iff s).2 hgrant, ite_self]

theorem settle_stays {s : State} (h : ∀ x ∈ s.port.accepted, settleOne s x = s) : settle s = s := by
  unfold settle
  generalize s.port.accepted = l at h
  induction l with
  | nil => rfl
  | cons x rest ih =>
    rw [List.foldl_cons, h x List.mem_cons_self]
    exact ih (fun y hy => h y (List.mem_cons_of_mem _ hy))

/-- A slot that waits still waits once reads are served and other slots answered, if that does not make it eligible. -/
theorem Waits.settled {s t : State} {x : Slot} (h : Waits s x) (hsettled : Settled s t)
    (he : eligible t x = eligible s x) : Waits t x := by
  intro ht
  obtain ⟨hread, hposting⟩ := h (he ▸ ht)
  refine ⟨hread, fun hp => (hposting hp).imp (fun hflight => (hsettled.inFlight x).trans hflight) ?_⟩
  rintro ⟨hparked, hset⟩
  refine ⟨hsettled.supply ▸ hparked, ?_⟩
  rcases hsettled.clock with hc | ⟨hc, -⟩
  · exact (congrArg MallClock.state hc).trans hset
  · exact hc

/-- Where the others wait, the answer of a slot lets nothing follow (R85, R86, R92, R93). -/
theorem settle_answered {s t : State} {q : Slot} (a : Answer) (hok : SlotsOk s.port) (hq : q ∈ s.port.accepted)
    (hwait : OthersWait s q) (hsettled : Settled s t) (hport : t.port = s.port) :
    settle (answerSlot t q a) = answerSlot t q a := by
  refine settle_stays (fun x hx => settleOne_stays ?_)
  rw [answerSlot_port, hport] at hx
  obtain ⟨hx, hne⟩ := List.mem_filter.1 hx
  obtain ⟨hshare, hgo⟩ := hwait x hx (of_decide_eq_true hne)
  have hstep : Settled s (answerSlot t q a) := hsettled.trans (answerSlot_settled _ _ _)
  exact Waits.settled hgo hstep (eligible_answered hok hq hport (of_decide_eq_true hne) hshare)

/-! CLOCK_SET -/

/-- A set that is taken, as a whole (R10): SET at `v` with the divider restarted; the alarm is fired by an advance from SET
alone, and the Expiry Unit tests where the clock became SET or its value changed. -/
theorem takeSet_eq {s : State} {v : Nat} (hrun : running s = true) : takeSet s v =
    let fires := decide (s.clock.state = .set ∧ s.clock.value ≠ v) && (s.records.limits.device.alarmEnable &&
      passesAlarm s.records.limits.device.alarmTime s.clock.value v)
    { s with
      clock := { state := .set, value := v, dividerRunning := true }
      alarmPending := s.alarmPending || fires
      posting := if fires then s.posting.map (fun p => { p with alarmFired := true }) else s.posting
      expiryWaiting :=
        if s.expiryWaiting ≠ none ∨ s.clock.state = .set ∧ v = s.clock.value then s.expiryWaiting
        else (s.records.holds.head?.filter (fun h => decide (h.deadline ≤ v))).map Hold.id } := by
  unfold takeSet
  have hrun' : s.powered = true ∧ s.nResetLow = false := by simpa [running] using hrun
  cases hst : s.clock.state with
  | unset =>
    rw [expiryTest_eq]
    by_cases hw : s.expiryWaiting = none <;> simp [running, hrun', hw]
  | set =>
    by_cases hv : v = s.clock.value
    · simp [hv, ← hst]
    · have hadvance := advance_eq (s := { s with clock := { s.clock with dividerRunning := true } }) hst v
      simp only [hv, if_false, hadvance]
      by_cases hw : s.expiryWaiting = none <;> simp [running, hrun', hw, hst, Ne.symm hv]

theorem isBehind_iff (s : State) (v : Nat) : isBehind s v = true ↔
    v < s.records.totals.floor ∨ s.clock.state = .set ∧ v < s.clock.value := by
  simp [isBehind]

theorem clockBody_eq (s : State) : clockBody s =
    field 1 (if s.clock.state = .set then 1 else 0) ++ field 4 s.clock.value ++ field 4 s.records.totals.floor := by
  unfold clockBody
  cases s.clock.state <;> rfl

/-- The row of a CLOCK_SET whose answer lets no other slot go on. -/
theorem exec_clockSet_alone {s : State} {v : Nat} {q : Slot} (hinv : portInv s = true) (hserved : Served s (.clockSet v) q)
    (hwait : OthersWait s q) :
    exec (.clockSet v) s = .next (answerSlot (serveClockSet v s).1 q (serveClockSet v s).2) := by
  obtain ⟨hsettled, hport⟩ : Settled s (serveClockSet v s).1 ∧ (serveClockSet v s).1.port = s.port :=
    serve_settled (i := .clockSet v) rfl
  have row : exec (.clockSet v) s = .next (serveRow s (.clockSet v) (serveClockSet v)) := rfl
  rw [row, serveRow_served hserved, settle_answered _ ((portInv_iff s).1 hinv).1 hserved.slot.1 hwait hsettled hport]

/-- Settles O10: the answer of the set lets nothing follow, so its row is the judgement of R10's table. -/
theorem clockSetIsJudged : Obligations.ClockSetIsJudged := by
  unfold Obligations.ClockSetIsJudged
  intro s v q hinv hserved hwait ha floor told others
  have hrun := hserved.slot.2
  rw [exec_clockSet_alone hinv hserved hwait]
  refine ⟨fun hbehind => ?_, fun hfloor hup => ?_⟩
  · have hb : isBehind s v = true := (isBehind_iff s v).2 hbehind
    simp only [serveClockSet, hb, if_true, clockBody_eq]
    rfl
  · have hb : ¬ isBehind s v = true := by
      rw [isBehind_iff]
      rintro (h | ⟨hset, h⟩)
      · exact absurd hfloor (Nat.not_le_of_lt h)
      · exact absurd (hup hset) (Nat.not_le_of_lt h)
    refine ⟨_, ?_, by simp only [serveClockSet, hb, clockBody_eq, takeSet_eq hrun]; rfl⟩
    rw [Bool.and_eq_true, Bool.and_eq_true, decide_eq_true_eq, passesAlarm_iff ha]
    constructor
    · rintro ⟨⟨hset, -⟩, hon, hpass⟩
      exact ⟨hset, hon, hpass⟩
    · rintro ⟨hset, hon, k, hk, hkv, hmod⟩
      exact ⟨⟨hset, by omega⟩, hon, k, hk, hkv, hmod⟩

end Sys2Proof.Machine
end

section
/-! PROOFS. Power-up and reset (R13, R169, R178, entry 4). -/

namespace Sys2Proof.Machine

/-! Power-up -/

/-- No read is served while the device is stopped (R177). -/
theorem readsServed_stopped {s : State} (h : s.powered = false) : readsServed s = s :=
  readsServed_none (by simp [oldestRead, running, h])

theorem exec_powerUp_stopped {s : State} (h : s.powered = false) (r : SupplyReading) (charged : Bool) :
    exec (.powerUp r charged) s = .next (powerOn { s with reading := r, vhold := charged }) := by
  have row : exec (.powerUp r charged) s = .next (powerOn { measure (readsServed s) r with vhold := charged }) := rfl
  rw [row, readsServed_stopped h]
  rfl

/-- The device with its volatile state at power-up, by the words of the statement. -/
theorem volatileAtPowerUp_eq (s : State) : volatileAtPowerUp s = blank s := rfl

theorem evalFlag_clear (live : Bool) : evalFlag clearFlag live = { live := live, latched := live } := by
  simp [evalFlag, clearFlag]

theorem latchBit_clear (live : Bool) : latchBit clearFlag live = if live then 0x40#8 else 0x00#8 := by
  simp [latchBit, newlyLatched, clearFlag, eventBit]

/-- The device does not start before both conditions hold (R178). -/
theorem powerOn_waits {s : State} (h : s.vhold = false ∨ s.reading.vdd ≤ 2750) : powerOn s = s := by
  unfold powerOn
  rw [if_neg]
  rcases h with h | h
  · simp [h]
  · simp [startMv, Nat.not_lt_of_le h]

/-- The device starts: under nRESET the first evaluation and CLOCK_NEEDED wait (R178). -/
theorem powerOn_starts {s : State} (hoff : s.powered = false) (hcharged : s.vhold = true) (hv : 2750 < s.reading.vdd) :
    powerOn s =
      if s.nResetLow then { blank s with powered := true, clockNeededHeld := true }
      else evalTables (firstEvaluation { blank s with powered := true, events := 0x20#8 }) := by
  unfold powerOn
  rw [if_pos (by simp [hoff, hcharged, startMv, hv])]
  simp [State.raise, volatileAtPowerUp_eq, blank, eventBit]

section Evaluation

variable {t : State} (hdir : t.dirHigh = clearFlag) (hholds : t.holdsHigh = clearFlag) (hlow : t.supplyLow = clearFlag)

include hdir hholds hlow

/-- The first evaluation from clear flags with the supply at or above the warning level: NORMAL, and the tables evaluated,
with CONDITION_LATCHED where one of them latches (R169, R178). -/
theorem firstEvaluation_normal (hlevel : warningLevel t ≤ t.reading.vdd) :
    evalTables (firstEvaluation t) =
      { t with
        dirHigh := { live := dirHighTest t.records, latched := dirHighTest t.records }
        holdsHigh := { live := holdsHighTest t.records, latched := holdsHighTest t.records }
        supplyLow := clearFlag
        supply := some .normal
        guard := none
        events := t.events ||| (if dirHighTest t.records || holdsHighTest t.records then 0x40#8 else 0x00#8) } := by
  have level : belowWarning t = false := decide_eq_false (Nat.not_lt_of_le hlevel)
  rw [firstEvaluation, level, if_neg Bool.false_ne_true]
  simp only [evalTables, evalSupplyLow, hdir, hholds, hlow, evalFlag_clear, latchBit_clear]
  cases dirHighTest t.records <;> cases holdsHighTest t.records <;> simp [clearFlag, BitVec.or_assoc]

/-- The first evaluation from clear flags with the supply below the warning level: LOW with the guard timer started, and
SUPPLY_LOW latched and set (R172, R178). -/
theorem firstEvaluation_low (hlevel : t.reading.vdd < warningLevel t) :
    evalTables (firstEvaluation t) =
      { t with
        dirHigh := { live := dirHighTest t.records, latched := dirHighTest t.records }
        holdsHigh := { live := holdsHighTest t.records, latched := holdsHighTest t.records }
        supplyLow := { live := true, latched := true }
        supply := some .low
        guard := some { startedAt := t.reading.ms, span := t.records.limits.device.guardTime }
        events := t.events ||| 0xC0#8 } := by
  have level : belowWarning t = true := decide_eq_true hlevel
  rw [firstEvaluation, level, if_pos rfl]
  simp only [evalTables, enterLow, State.raise, evalSupplyLow, hdir, hholds, hlow, evalFlag_clear, latchBit_clear]
  cases dirHighTest t.records <;> cases holdsHighTest t.records <;> simp [eventBit, BitVec.or_assoc]

end Evaluation

/-- Settles O14, case by case of nRESET and of the warning level. -/
theorem powerUpStartsTheDevice : Obligations.PowerUpStartsTheDevice := by
  unfold Obligations.PowerUpStartsTheDevice
  intro s r charged hoff dir holds started evaluated
  rw [exec_powerUp_stopped hoff]
  have starts := fun hc hv => powerOn_starts (s := { s with reading := r, vhold := charged }) hoff hc hv
  have raised : ∀ hc hv, s.nResetLow = false → powerOn { s with reading := r, vhold := charged } =
      evalTables (firstEvaluation { started with events := 0x20#8 }) := fun hc hv hreset => by
    rw [starts hc hv, if_neg (by simp [hreset])]
    rfl
  refine ⟨fun hc hv hreset hlevel => ?_, fun hc hv hreset hlevel => ?_, fun hc hv hreset => ?_, fun h => ?_⟩
  · rw [raised hc hv hreset, firstEvaluation_normal (t := { started with events := 0x20#8 }) rfl rfl rfl hlevel]
    rfl
  · have low : (0xE0#8 : BitVec 8) = 0x20#8 ||| 0xC0#8 := by decide
    rw [raised hc hv hreset, firstEvaluation_low (t := { started with events := 0x20#8 }) rfl rfl rfl hlevel, low]
    rfl
  · rw [starts hc hv, if_pos hreset]
    rfl
  · rw [powerOn_waits h]

/-! Reset -/

/-- The delivered device meets the six invariants: its tables are empty but for the service desk, and nothing is in
flight. -/
theorem reset_meets_invariants : tablesInv State.reset = true ∧ portInv State.reset = true ∧
    floorInv State.reset = true ∧ conditionsInv State.reset = true ∧ accountsInv State.reset = true ∧
    banksInv State.reset = true :=
  ⟨by decide, by decide, by decide, by decide, by decide, by decide⟩

/-- Only the service desk is enrolled in the delivered device (R101). -/
theorem reset_merchant {m : Nat} (hm : m ≠ 0) : merchantOf State.reset.records m = unenrolledMerchant := by
  simp [merchantOf, tableGet, tableFind, State.reset, deliveredRecords, Ne.symm hm]

/-- Settles O60: the invariants, the merchants that are not listed, and the delivered values, which are read off. -/
theorem resetIsTheDeliveredDevice : Obligations.ResetIsTheDeliveredDevice := by
  unfold Obligations.ResetIsTheDeliveredDevice
  obtain ⟨tables, port, floor, conditions, accounts, banks⟩ := reset_meets_invariants
  refine ⟨tables, port, floor, conditions, accounts, banks, rfl, rfl, rfl, rfl, rfl, rfl, fun m hm => ?_, by decide⟩
  rw [reset_merchant hm]
  exact ⟨rfl, rfl⟩

end Sys2Proof.Machine
end

section
/-! PROOFS. What the reads answer (R11, R48, R76, R113, R163, R166, R167, R190 to R193). -/

namespace Sys2Proof.Machine

variable {s : State}

/-! Cards, holds and merchants -/

theorem serve_cardInquire_none {x : Nat} (h : cardOf s.records x = none) (p : Nat) :
    serve (.cardInquire x p) s = some (s, refuse .noCard) := by
  simp only [serve, readCardInquire, h]

theorem serve_cardInquire_some {x j : Nat} {c : Card} (h : cardOf s.records x = some (j, c)) (p : Nat) :
    serve (.cardInquire x p) s = some (s, answer .ok (if p = 0 then cardPage0 j c else cardPage1 j c)) := by
  simp only [serve, readCardInquire, h]

theorem serve_holdInquire_none {id : Nat} (h : findHold s.records.holds id = none) (p : Nat) :
    serve (.holdInquire id p) s = some (s, refuse .noHold) := by
  simp only [serve, readHoldInquire, h]

theorem serve_holdInquire_some {id : Nat} {h : Hold} {c : Card} (hh : findHold s.records.holds id = some h)
    (hc : tableFind s.records.cards h.slot = some c) (p : Nat) :
    serve (.holdInquire id p) s = some (s, answer .ok (if p = 0 then holdPage0 h else holdPage1 h c)) := by
  simp only [serve, readHoldInquire, hh, hc]

theorem withdrawnCode_eq (w : Option Nat) : withdrawnCode w = w.getD 255 := by cases w <;> rfl

/-! Scans -/

/-- In a rising table a search finds the listed entry that is the first to pass it. -/
theorem find?_rising {α : Type} {t : Table α} (h : rising t = true) {p : Nat × α → Bool} {e : Nat × α} (he : e ∈ t)
    (hp : p e = true) (hbefore : ∀ x ∈ t, x.1 < e.1 → p x = false) : t.find? p = some e := by
  induction t with
  | nil => cases he
  | cons x rest ih =>
    obtain ⟨hr, hlt⟩ := rising_cons h
    rcases List.mem_cons.1 he with rfl | hrest
    · exact List.find?_cons_of_pos hp
    · have hx : p x = false := hbefore x List.mem_cons_self (hlt e hrest)
      rw [List.find?_cons_of_neg (by rw [hx]; exact Bool.false_ne_true)]
      exact ih hr hrest (fun y hy => hbefore y (List.mem_cons_of_mem _ hy))

/-- A merchant that has a condition latched. -/
def merchantLatched (x : Merchant) : Bool := x.refundLatched || x.deficitLatched

theorem merchantLatched_false {x : Merchant} (h : x.refundLatched = false ∧ x.deficitLatched = false) :
    merchantLatched x = false := by
  rw [merchantLatched, h.1, h.2]; rfl

theorem scanMerchants_eq (t : Table Merchant) (k : Nat) :
    scanMerchants t k = t.find? (fun e => decide (k ≤ e.1) && merchantLatched e.2) := rfl

/-- A listed merchant is what its number reads as. -/
theorem merchantOf_listed {r : Records} (h : rising r.merchants = true) {e : Nat × Merchant} (he : e ∈ r.merchants) :
    merchantOf r e.1 = e.2 := by
  rw [merchantOf, tableGet, (tableFind_eq_some_iff h e.1 e.2).2 he]; rfl

/-- A merchant with a condition latched is listed. -/
theorem latched_listed {r : Records} (h : rising r.merchants = true) {m : Nat}
    (hm : merchantLatched (merchantOf r m) = true) : (m, merchantOf r m) ∈ r.merchants := by
  rw [← tableFind_eq_some_iff h]
  rw [merchantOf, tableGet] at hm ⊢
  cases hf : tableFind r.merchants m with
  | none => rw [hf] at hm; cases hm
  | some x => rfl

theorem scanMerchants_none {r : Records} (h : rising r.merchants = true) {k : Nat}
    (hk : ∀ m, k ≤ m → merchantLatched (merchantOf r m) = false) : scanMerchants r.merchants k = none := by
  rw [scanMerchants_eq, List.find?_eq_none]
  intro e he
  rw [Bool.and_eq_true, decide_eq_true_eq]
  rintro ⟨hke, hlatched⟩
  rw [← merchantOf_listed h he, hk e.1 hke] at hlatched
  cases hlatched

theorem scanMerchants_some {r : Records} (h : rising r.merchants = true) {k m : Nat} (hkm : k ≤ m)
    (hm : merchantLatched (merchantOf r m) = true)
    (hbefore : ∀ i, k ≤ i → i < m → merchantLatched (merchantOf r i) = false) :
    scanMerchants r.merchants k = some (m, merchantOf r m) := by
  rw [scanMerchants_eq]
  refine find?_rising h (latched_listed h hm) (by simp [hkm, hm]) (fun e he hlt => ?_)
  by_cases hke : k ≤ e.1
  · rw [← merchantOf_listed h he, hbefore e.1 hke hlt, Bool.and_false]
  · rw [decide_eq_false hke, Bool.false_and]

theorem scanCards_none {t : Table Card} (h : rising t = true) {k : Nat}
    (hk : ∀ j c, k ≤ j → tableFind t j = some c → c.velocityLatched = false) : scanCards t k = none := by
  rw [scanCards, List.find?_eq_none]
  intro e he
  rw [Bool.and_eq_true, decide_eq_true_eq]
  rintro ⟨hke, hlatched⟩
  rw [hk e.1 e.2 hke ((tableFind_eq_some_iff h e.1 e.2).2 he)] at hlatched
  cases hlatched

theorem scanCards_some {t : Table Card} (h : rising t = true) {k j : Nat} {c : Card} (hkj : k ≤ j)
    (hj : tableFind t j = some c) (hc : c.velocityLatched = true)
    (hbefore : ∀ i c', k ≤ i → i < j → tableFind t i = some c' → c'.velocityLatched = false) :
    scanCards t k = some (j, c) := by
  refine find?_rising h ((tableFind_eq_some_iff h j c).1 hj) (by simp [hkj, hc]) (fun e he hlt => ?_)
  by_cases hke : k ≤ e.1
  · rw [hbefore e.1 e.2 hke hlt ((tableFind_eq_some_iff h e.1 e.2).2 he), Bool.and_false]
  · rw [decide_eq_false hke, Bool.false_and]

theorem serve_scan_merchant (k : Nat) : serve (.conditionScan .merchant k) s = some (s, readScan .merchant k s) := rfl

theorem serve_scan_card (k : Nat) : serve (.conditionScan .card k) s = some (s, readScan .card k s) := rfl

/-! Events and limits -/

/-- The first pending cause is the pending bit of the highest number (R166, R190). -/
theorem firstCause_toNat (p : BitVec 8) : (firstCause p).toNat =
    if p.getLsbD 7 then 128 else if p.getLsbD 6 then 64 else if p.getLsbD 5 then 32 else if p.getLsbD 4 then 16
    else if p.getLsbD 3 then 8 else if p.getLsbD 2 then 4 else if p.getLsbD 1 then 2 else if p.getLsbD 0 then 1
    else 0 := by
  simp only [firstCause, apply_ite BitVec.toNat]
  rfl

theorem clearedEvents_getLsbD (e f : BitVec 8) {i : Nat} (hi : i < 8) :
    (e &&& ~~~f).getLsbD i = (e.getLsbD i && !f.getLsbD i) := by
  simp [hi]

theorem map_some_beBytes (w n : Nat) : (beBytes w n).map some = field w n := rfl

/-- Settles O51, read by read; the scans by the first entry that passes them. -/
theorem readsAnswerTheirFields : Obligations.ReadsAnswerTheirFields := by
  unfold Obligations.ReadsAnswerTheirFields
  intro s
  refine ⟨fun x p h => serve_cardInquire_none h p, fun x j c h => ?_, fun id p h => serve_holdInquire_none h p,
    fun id h c hh hc => ?_, fun m => ?_, fun hr k hk => ?_, fun hr k m hkm hx hbefore => ?_, fun hr k hk => ?_,
    fun hr k j c hkj hj hc hbefore => ?_, ?_, fun f => ?_, ?_, ?_⟩
  · refine ⟨serve_cardInquire_some h 0, (serve_cardInquire_some h 1).trans ?_⟩
    simp only [Nat.one_ne_zero, if_false, cardPage1]
    cases c.validUntil <;> cases c.retiredAt <;> rfl
  · exact ⟨serve_holdInquire_some hh hc 0, serve_holdInquire_some hh hc 1⟩
  · simp only [← withdrawnCode_eq]
    exact ⟨rfl, rfl⟩
  · rw [serve_scan_merchant, readScan, scanMerchants_none hr (fun m hm => merchantLatched_false (hk m hm))]
    rfl
  · have hlatched : merchantLatched (merchantOf s.records m) = true := by simpa [merchantLatched] using hx
    rw [serve_scan_merchant, readScan, scanMerchants_some hr hkm hlatched
      (fun i hki him => merchantLatched_false (hbefore i hki him))]
    rfl
  · rw [serve_scan_card, readScan, scanCards_none hr hk]
    rfl
  · rw [serve_scan_card, readScan, scanCards_some hr hkj hj hc hbefore]
    rfl
  · simp only [← firstCause_toNat]
    rfl
  · exact ⟨_, rfl, rfl, fun i hi => clearedEvents_getLsbD _ _ hi⟩
  · rw [← clockBody_eq]
    rfl
  · simp only [serve, readLimits, limitsBody, valueBytes, monitorBytes, deviceBytes, List.map_append, map_some_beBytes,
      List.append_assoc]
    exact ⟨rfl, rfl, rfl⟩

end Sys2Proof.Machine
end

section
/-! PROOFS. The fall of nRESET (R13, R94, R169, R179, R189): what the slots a posting's end lets go on are answered, and
what the fall clears after it. -/

namespace Sys2Proof.Machine

/-! The slots a settling answers -/

/-- What one pass of a settling answers a slot: a read is served, a request of the Posting class is answered where no grant
can be made (R86, R92, R93). -/
def AnsweredAs (s s1 : State) (q : Slot) (a : Answer) : Prop :=
  (∃ i, requestOf q = some i ∧ serve i s = some (s1, a)) ∨
  isPostingSlot q = true ∧ s1 = s ∧
    (s.supply = some .parked ∧ a = refuseSlot q .parked ∨
      s.supply ≠ some .parked ∧ s.clock.state = .unset ∧ a = refuseSlot q .clockUnset)

theorem AnsweredAs.settled {s s1 : State} {q : Slot} {a : Answer} (h : AnsweredAs s s1 q a) :
    Settled s s1 ∧ s1.port = s.port := by
  rcases h with ⟨i, -, hserve⟩ | ⟨-, rfl, -⟩
  · exact serve_settled hserve
  · exact ⟨.refl _, rfl⟩

theorem blockedAnswer_eq_some {s : State} {r : Result} (h : blockedAnswer s = some r) :
    s.supply = some .parked ∧ r = .parked ∨
      s.supply ≠ some .parked ∧ s.clock.state = .unset ∧ r = .clockUnset := by
  unfold blockedAnswer at h
  split at h
  · next hparked => exact .inl ⟨hparked, (Option.some.inj h).symm⟩
  · next hparked =>
    split at h
    · next hunset => exact .inr ⟨hparked, hunset, (Option.some.inj h).symm⟩
    · cases h

/-- One slot of a settling waits, or it is answered by its class. -/
theorem settleOne_waits_or_answered (s : State) (q : Slot) :
    settleOne s q = s ∧ Waits s q ∨ ∃ s1 a, AnsweredAs s s1 q a ∧ settleOne s q = answerSlot s1 q a := by
  unfold settleOne
  split
  · next he => exact .inl ⟨rfl, fun h => by simp [h] at he⟩
  · split
    · next hi => exact .inl ⟨rfl, fun _ => by simp [isReadSlot, isPostingSlot, hi]⟩
    · next i hi =>
      split
      · next s1 a hserve => exact .inr ⟨s1, a, .inl ⟨i, hi, hserve⟩, rfl⟩
      · next hserve =>
        have hread : isRead i = false := (serve_eq_none_iff i s).1 hserve
        have hclass : isReadSlot q = false ∧ isPostingSlot q = true := by simp [isReadSlot, isPostingSlot, hi, hread]
        split
        · next hflight => exact .inl ⟨rfl, fun _ => ⟨hclass.1, fun _ => .inl hflight⟩⟩
        · split
          · next r hr =>
            refine .inr ⟨s, _, .inr ⟨hclass.2, rfl, ?_⟩, rfl⟩
            exact (blockedAnswer_eq_some hr).imp (fun ⟨h, hr⟩ => ⟨h, hr ▸ rfl⟩) (fun ⟨h, hu, hr⟩ => ⟨h, hu, hr ▸ rfl⟩)
          · next hr => exact .inl ⟨rfl, fun _ => ⟨hclass.1, fun _ => .inr ((blockedAnswer_none_iff s).1 hr)⟩⟩

/-- In a port whose places rise, the other slots are those before a slot and those behind it (R183). -/
theorem SlotsOk.others {p : LinkPort} {q : Slot} {pre post : List Slot} (h : SlotsOk p)
    (hacc : p.accepted = pre ++ q :: post) :
    (∀ y ∈ pre, y.place ≠ q.place) ∧ p.accepted.filter (fun x => decide (x.place ≠ q.place)) = pre ++ post := by
  have hnodup := h.accepted_nodup
  rw [hacc, List.map_append, List.map_cons, List.nodup_middle, List.nodup_cons, ← List.map_append] at hnodup
  have hne : ∀ y ∈ pre ++ post, y.place ≠ q.place := fun y hy he => hnodup.1 (he ▸ List.mem_map_of_mem hy)
  refine ⟨fun y hy => hne y (List.mem_append_left _ hy), ?_⟩
  rw [hacc, List.filter_append, List.filter_cons_of_neg (by simp), ← List.filter_append, List.filter_eq_self]
  exact fun y hy => decide_eq_true (hne y hy)

/-- The answer of a slot leaves the slots accepted before it as eligible as they were (R85). -/
theorem eligible_before {s t : State} {q x : Slot} {a : Answer} {pre post : List Slot} (hok : SlotsOk s.port)
    (hacc : s.port.accepted = pre ++ q :: post) (hport : t.port = s.port) (hx : x ∈ pre) :
    eligible (answerSlot t q a) x = eligible s x := by
  obtain ⟨hne, -⟩ := hok.others hacc
  obtain ⟨front, back, rfl⟩ := List.append_of_mem hx
  have hearlier : ∀ y ∈ earlier s x, y ∈ front ++ x :: back := by
    unfold earlier
    rw [hacc, List.append_assoc, List.cons_append, List.takeWhile_append, List.takeWhile_cons_of_neg (by simp)]
    intro y hy
    split at hy
    · exact List.mem_append_left _ (by simpa using hy)
    · exact List.mem_append_left _ ((List.takeWhile_sublist _).subset hy)
  unfold eligible
  rw [earlier_answered hport (hne x hx), List.filter_eq_self.2]
  exact fun y hy => decide_eq_true (hne y (hearlier y hy))

/-- An answer of a settling from `s` that leaves `t` (R86, R92, R93). -/
def AnsweredIn (s t : State) (a : Answered) : Prop :=
  (∃ i u u', requestOf a.slot = some i ∧ serve i u = some (u', a.answer) ∧ u.records = t.records) ∨
  isPostingSlot a.slot = true ∧
    (t.supply = some .parked ∧ a.answer = refuseSlot a.slot .parked ∨
      t.supply ≠ some .parked ∧ s.clock.state = .unset ∧ a.answer = refuseSlot a.slot .clockUnset)

theorem settledBy_iff (s t : State) (rest : List Answered) : SettledBy s t rest ↔
    (rest.map Answered.slot).Sublist s.port.accepted ∧ (∀ a ∈ rest, AnsweredIn s t a) ∧
      ∀ q ∈ t.port.accepted, Waits t q := Iff.rfl

/-- A clock that is UNSET after answers were placed was UNSET before. -/
theorem Settled.unset {s t : State} (h : Settled s t) (hu : t.clock.state = .unset) : s.clock.state = .unset := by
  rcases h.clock with hc | ⟨hset, -⟩
  · rw [← hc]; exact hu
  · rw [hu] at hset; cases hset

theorem AnsweredIn.of_unset {s s1 t : State} {a : Answered} (h : AnsweredIn s1 t a)
    (hu : s1.clock.state = .unset → s.clock.state = .unset) : AnsweredIn s t a :=
  h.imp_right (fun ⟨hp, h⟩ => ⟨hp, h.imp_right (fun ⟨hn, hunset, ha⟩ => ⟨hn, hu hunset, ha⟩)⟩)

theorem AnsweredAs.answeredIn {s s1 t : State} {q : Slot} {a : Answer} (h : AnsweredAs s s1 q a) (ht : Settled s t) :
    AnsweredIn s t { slot := q, answer := a } := by
  rcases h with ⟨i, hi, hserve⟩ | ⟨hp, -, hblocked⟩
  · exact .inl ⟨i, s, s1, hi, hserve, ht.records.symm⟩
  · exact .inr ⟨hp, by rw [ht.supply]; exact hblocked⟩

/-- A pass of a settling over the slots `l`, those before them waiting: the answers it places, in acceptance order, and
after it every slot waits. -/
theorem foldl_settleOne_settledBy (l : List Slot) (s : State) (pre : List Slot) (hok : SlotsOk s.port)
    (hacc : s.port.accepted = pre ++ l) (hpre : ∀ x ∈ pre, Waits s x) :
    ∃ rest, (l.foldl settleOne s).port.delivery = s.port.delivery ++ rest ∧ (rest.map Answered.slot).Sublist l ∧
      (∀ a ∈ rest, AnsweredIn s (l.foldl settleOne s) a) ∧
      ∀ q ∈ (l.foldl settleOne s).port.accepted, Waits (l.foldl settleOne s) q := by
  induction l generalizing s pre with
  | nil =>
    refine ⟨[], by simp, by simp, by simp, fun q hq => hpre q ?_⟩
    simpa [hacc] using hq
  | cons q l ih =>
    rw [List.foldl_cons]
    rcases settleOne_waits_or_answered s q with ⟨hstay, hwait⟩ | ⟨s1, a, has, hans⟩
    · rw [hstay]
      have hpre' : ∀ x ∈ pre ++ [q], Waits s x := by
        simpa [or_imp, forall_and] using And.intro hpre hwait
      obtain ⟨rest, hdel, hsub, hall, hwaits⟩ := ih s (pre ++ [q]) hok (by simp [hacc]) hpre'
      exact ⟨rest, hdel, hsub.cons q, hall, hwaits⟩
    · rw [hans]
      obtain ⟨hsettled, hport⟩ := has.settled
      have hmem : q ∈ s1.port.accepted := by simp [hport, hacc]
      have hstep : Settled s (answerSlot s1 q a) := hsettled.trans (answerSlot_settled _ _ _)
      have hacc' : (answerSlot s1 q a).port.accepted = pre ++ l := by
        rw [answerSlot_port, hport]
        exact (hok.others hacc).2
      have hpre' : ∀ x ∈ pre, Waits (answerSlot s1 q a) x := fun x hx =>
        (hpre x hx).settled hstep (eligible_before hok hacc hport hx)
      obtain ⟨rest, hdel, hsub, hall, hwaits⟩ := ih _ pre (SlotsOk.answer a (hport ▸ hok) hmem) hacc' hpre'
      refine ⟨{ slot := q, answer := a } :: rest, ?_, hsub.cons_cons q, fun b hb => ?_, hwaits⟩
      · rw [hdel, answerSlot_port, hport]; simp
      · rcases List.mem_cons.1 hb with rfl | hb
        · exact has.answeredIn (hstep.trans (foldl_settled _ settleOne_settled _ _))
        · exact (hall b hb).of_unset hstep.unset

/-- A settling places its answers behind those already placed (R86, R92, R93). -/
theorem settle_settledBy {s : State} (hok : SlotsOk s.port) :
    ∃ rest, (settle s).port.delivery = s.port.delivery ++ rest ∧ SettledBy s (settle s) rest := by
  obtain ⟨rest, hdel, hrest⟩ := foldl_settleOne_settledBy s.port.accepted s [] hok rfl (by simp)
  exact ⟨rest, hdel, (settledBy_iff _ _ _).2 hrest⟩

/-! The end of a posting -/

theorem supplyTally_eq (s : State) (c n : Nat) : supplyTally s c n = clearCounts s c n := by
  unfold supplyTally clearCounts
  cases s.supplyLow.latched <;> cases s.supplyLow.live <;> rfl

/-- The comparison with changed levels moves the supply state, its timer and its flags alone (R176). -/
theorem compareSupply_eq (s : State) :
    let t := compareSupply s
    t = { s with events := t.events, supplyLow := t.supplyLow, supply := t.supply, guard := t.guard } := by
  have normal : enterNormal s = { s with
      events := (enterNormal s).events, supplyLow := (enterNormal s).supplyLow, supply := (enterNormal s).supply,
      guard := (enterNormal s).guard } := by
    unfold enterNormal
    cases s.supply with
    | none => rfl
    | some v => cases v <;> rfl
  unfold compareSupply
  split
  · rfl
  · split
    · rfl
    · rfl
  · split
    · exact normal
    · rfl
  · split
    · exact normal
    · rfl

/-- What the end of a posting leaves before its response is placed: its changes, and what a DEVICE clear or changed supply
levels do to the supply (R80, R160, R176). -/
theorem finishState_applyChange (s : State) (p : Posting) :
    let t := finishState (applyChange s p) p
    t = { applyChange s p with
      records := endedRecords s p, events := t.events, supplyLow := t.supplyLow, supply := t.supply, guard := t.guard } := by
  cases hf : p.change.finish with
  | plain => simp only [finishState, endedRecords, hf]; rfl
  | supplyLevels =>
    simp only [finishState, endedRecords, hf]
    exact compareSupply_eq _
  | clearSupplyLow c n =>
    have htally : supplyTally (applyChange s p) c n = clearCounts s c n := supplyTally_eq _ c n
    simp only [finishState, endedRecords, hf, htally, endDeviceClear]
    split
    · rfl
    · rfl

theorem finishAnswer_applyChange (s : State) (p : Posting) : finishAnswer (applyChange s p) p = endedAnswer s p := by
  cases hf : p.change.finish with
  | plain => simp only [finishAnswer, endedAnswer, hf]
  | supplyLevels => simp only [finishAnswer, endedAnswer, hf]
  | clearSupplyLow c n =>
    have htally : supplyTally (applyChange s p) c n = clearCounts s c n := supplyTally_eq _ c n
    simp only [finishAnswer, endedAnswer, hf, htally]

theorem placeAnswer_delivery {s t : State} (p : Posting) (hport : t.port = s.port) :
    (placeAnswer t p.item (endedAnswer s p)).port.delivery = s.port.delivery ++ endedSlot s p := by
  cases hitem : p.item with
  | slot k =>
    cases hans : endedAnswer s p with
    | none => simp [placeAnswer, endedSlot, hitem, hans, hport]
    | some a =>
      simp only [placeAnswer, endedSlot, hitem, hans, hport]
      cases s.port.accepted.find? (fun q => decide (q.place = k)) with
      | none => simp [hport]
      | some q => simp [hport]
  | _ => simp [placeAnswer, endedSlot, hitem, hport]

/-- The state the end of the posting `p` leaves before the slots it lets go on are answered (R80, R81). -/
def placed (s : State) (p : Posting) : State :=
  placeAnswer (finishState (applyChange s p) p) p.item (endedAnswer s p)

theorem endPosting_eq {s : State} {p : Posting} (hp : s.posting = some p) :
    endPosting s = expiryTest (settle (placed s p)) := by
  simp only [endPosting, hp, finishAnswer_applyChange]
  rfl

/-- Placing the response answers its slot at most, and moves nothing else (R81). -/
theorem placed_settled (s : State) (p : Posting) : Settled (finishState (applyChange s p) p) (placed s p) :=
  answerSlot_place _ _ _

/-- The Expiry Unit's test after a settling changes nothing of what the settling answered or left waiting. -/
theorem expiryTest_settledBy {s u t : State} {rest : List Answered} (h : SettledBy u t rest)
    (hacc : u.port.accepted.Sublist s.port.accepted) (hu : u.clock.state = .unset → s.clock.state = .unset) :
    SettledBy s (expiryTest t) rest := by
  obtain ⟨hsub, hans, hwaits⟩ := (settledBy_iff _ _ _).1 h
  have hsame : Settled t (expiryTest t) := expiryTest_settled t
  refine (settledBy_iff _ _ _).2 ⟨hsub.trans hacc, fun a ha => ?_, fun q hq => ?_⟩
  · have hanswered : AnsweredIn s t a := (hans a ha).of_unset hu
    unfold AnsweredIn
    rw [hsame.records, hsame.supply]
    exact hanswered
  · rw [expiryTest_port] at hq
    exact (hwaits q hq).settled hsame (by simp only [eligible, earlier, expiryTest_port])

/-! The fall -/

/-- What the fall of nRESET leaves of `s`, after the posting in flight ended in `t`: the records, the clock and the ANSWERED
slots as `t` has them, and the volatile rest cleared (R13, R94, R169, R179, R189). -/
def fallen (s t : State) : State :=
  { s with
    records := t.records
    clock := t.clock
    port := { s.port with
      accepted := [], delivery := t.port.delivery, offered := none, lastRejected := false, lastNotTaken := false,
      frame := none }
    posting := none
    expiryWaiting := none
    alarmPending := false
    qual := []
    events := 0x00#8
    dirHigh := { live := false, latched := false }
    holdsHigh := { live := false, latched := false }
    supplyLow := { live := false, latched := false }
    supply := none
    guard := none
    nResetLow := true }

theorem resetVolatile_settled {s t : State} (h : Settled s t) : resetVolatile t = fallen s t := by
  unfold resetVolatile fallen
  rw [h.lastKind, h.reading, h.vhold, h.powered, h.nSelLow, h.clockNeededHeld, h.pending, h.portRest]
  rfl

theorem fallen_finishState (s t : State) (p : Posting) : fallen (finishState (applyChange s p) p) t = fallen s t := by
  rw [finishState_applyChange]
  rfl

theorem resetFall_eq {s : State} (hpow : s.powered = true) (hn : s.nResetLow = false) :
    resetFall s = resetVolatile (endPosting s) := by
  simp only [resetFall, hpow, hn, Bool.false_eq_true, if_false, if_true]

/-- What the end of the posting in flight does: its changes, its response, and the answers of the slots it lets go on (R80,
R81, R86). -/
theorem endPosting_places {s : State} {p : Posting} (hp : s.posting = some p) (hok : SlotsOk s.port) :
    ∃ rest, (endPosting s).records = endedRecords s p ∧
      (endPosting s).port.delivery = s.port.delivery ++ endedSlot s p ++ rest ∧ SettledBy s (endPosting s) rest ∧
      Settled (finishState (applyChange s p) p) (endPosting s) := by
  have hport : (finishState (applyChange s p) p).port = s.port := by rw [finishState_applyChange]; rfl
  have hrecords : (finishState (applyChange s p) p).records = endedRecords s p := by rw [finishState_applyChange]
  have hclock : (finishState (applyChange s p) p).clock = s.clock := by rw [finishState_applyChange]; rfl
  have hplaced := placed_settled s p
  obtain ⟨rest, hdel, hrest⟩ := settle_settledBy (SlotsOk.placeAnswer p.item (endedAnswer s p) (hport ▸ hok))
  have hall := (hplaced.trans (settle_settled _)).trans (expiryTest_settled _)
  rw [endPosting_eq hp]
  refine ⟨rest, hall.records.trans hrecords, ?_, ?_, hall⟩
  · rw [expiryTest_port]
    exact hdel.trans (congrArg (· ++ rest) (placeAnswer_delivery p hport))
  · refine expiryTest_settledBy hrest (hport ▸ hplaced.accepted) (fun hu => ?_)
    exact hclock ▸ hplaced.unset hu

/-- Settles O15: the posting in flight ends as its own row ends it, and the fall then clears the volatile state. -/
theorem fallOfResetClears : Obligations.FallOfResetClears := by
  unfold Obligations.FallOfResetClears
  intro s hpow hn hwaits
  have fall : exec .nresetFall s = .next (resetVolatile (endPosting s)) := by
    rw [← resetFall_eq hpow hn]
    exact congrArg (fun t => Host.Outcome.next (resetFall t)) (readsServed_none hwaits)
  refine ⟨fun hnone => ?_, fun p hp hinv => ?_⟩
  · rw [fall, show endPosting s = s by simp only [endPosting, hnone]]
    rfl
  · have posting : exec (.postingEnd s.reading) s = .next (endPosting s) :=
      congrArg (fun t => Host.Outcome.next (endPosting (measure t s.reading))) (readsServed_none hwaits)
    obtain ⟨rest, hrec, hdel, hrest, hsettled⟩ := endPosting_places hp ((portInv_iff s).1 hinv).1
    refine ⟨endPosting s, rest, posting, ?_, hrec, hdel, hrest⟩
    rw [fall, resetVolatile_settled hsettled, fallen_finishState]
    rfl

end Sys2Proof.Machine
end

section
/-! PROOFS. A property of the record array that every posting keeps is kept by every step (R80, R82, R160): outside postings
no step writes a record, and a posting's records stand as its change-set has them until it ends. -/

namespace Sys2Proof.Machine

/-! Pieces of a step that write no record -/

/-- The records stand, and so do those of a posting in flight, unless it is dropped. -/
structure RecordsKept (s t : State) : Prop where
  records : t.records = s.records
  posting : ∀ p, t.posting = some p → ∃ p', s.posting = some p' ∧ p.change = p'.change

theorem RecordsKept.refl (s : State) : RecordsKept s s := ⟨rfl, fun p hp => ⟨p, hp, rfl⟩⟩

theorem RecordsKept.trans {s t u : State} (h : RecordsKept s t) (k : RecordsKept t u) : RecordsKept s u where
  records := k.records.trans h.records
  posting := fun p hp => by
    obtain ⟨p', hp', hchange⟩ := k.posting p hp
    obtain ⟨p'', hp'', hchange'⟩ := h.posting p' hp'
    exact ⟨p'', hp'', hchange.trans hchange'⟩

theorem Beside.recordsKept {s t : State} (h : Beside s t) : RecordsKept s t where
  records := h.records
  posting := fun p hp => by
    rcases h.posting with h1 | h1
    · exact ⟨p, h1 ▸ hp, rfl⟩
    · rw [h1] at hp; cases hp

theorem Settled.recordsKept {s t : State} (h : Settled s t) : RecordsKept s t where
  records := h.records
  posting := fun p hp => by
    rcases h.posting with h1 | h1
    · exact ⟨p, h1 ▸ hp, rfl⟩
    · rw [h1, Option.map_eq_some_iff] at hp
      obtain ⟨p', hp', rfl⟩ := hp
      exact ⟨p', hp', rfl⟩

/-- A change that drops the posting in flight, if any, and leaves the records. -/
theorem RecordsKept.of_dropped {s t : State} (hr : t.records = s.records) (hp : t.posting = none) : RecordsKept s t where
  records := hr
  posting := fun p h => by rw [hp] at h; cases h

theorem tickClock_recordsKept (s : State) : RecordsKept s (tickClock s) := by
  unfold tickClock
  split
  · have moved : RecordsKept s (setValue s (s.clock.value + 1)) := ⟨rfl, fun p hp => ⟨p, hp, rfl⟩⟩
    exact moved.trans ((alarmTest_settled _ _ _).trans (expiryTest_settled _)).recordsKept
  · exact .refl s

theorem evalTables_recordsKept (s : State) : RecordsKept s (evalTables (firstEvaluation s)) :=
  ((firstEvaluation_beside s).trans (u := evalTables _) ⟨rfl, rfl, .inl rfl⟩).recordsKept

theorem resetRelease_recordsKept (s : State) : RecordsKept s (resetRelease s) := by
  unfold resetRelease
  split
  · simp only
    split
    · have restart : RecordsKept s { s with nResetLow := false, lastKind := .settlement, posting := none } :=
        .of_dropped rfl rfl
      exact restart.trans ((raiseHeld_beside _).recordsKept.trans
        ((evalTables_recordsKept _).trans (expiryTest_settled _).recordsKept))
    · exact Beside.recordsKept ⟨rfl, rfl, .inl rfl⟩
  · exact .refl s

theorem powerOn_recordsKept (s : State) : RecordsKept s (powerOn s) := by
  unfold powerOn
  split
  · simp only
    split
    · exact .of_dropped rfl rfl
    · have start : RecordsKept s (State.raise { volatileAtPowerUp s with powered := true } .clockNeeded) :=
        .of_dropped rfl rfl
      exact start.trans (evalTables_recordsKept _)
  · exact .refl s

theorem guardRunsOut_recordsKept (s : State) : RecordsKept s (guardRunsOut s) := by
  unfold guardRunsOut
  split
  · have entered : Beside s
        ((evalSupplyLow { s with supply := some .parked, guard := none } true).raise .parkChanged) := ⟨rfl, rfl, .inl rfl⟩
    exact entered.recordsKept.trans (answerParked_settled _).recordsKept
  · exact .refl s

/-! Properties of the records -/

/-- A property stands of the records, and of the change-set of a posting in flight. -/
structure Stands (P : Records → Prop) (s : State) : Prop where
  records : P s.records
  change : ∀ p, s.posting = some p → P p.change.records

/-- The judgement of every posting keeps a property of the records, and so does a write of the floor. -/
structure PostingsKeep (P : Records → Prop) : Prop where
  request : ∀ i, isRequest i = true → isRead i = false → WellFormed i = true →
    ∃ body, (∀ s, exec i s = .next (grantLink (readsServed s) i body)) ∧ ∀ d, P d.records → P (body d).1.records
  expiry : ∀ id d, P d.records → P (postExpiry id d).records
  alarm : ∀ d, P d.records → P (postAlarmCutover d).records
  statement : ∀ m d, P d.records → P (postStatementStep m d).records
  latch : ∀ m d, P d.records → P (postLatch m d).records
  floor : ∀ (r : Records) n, P r → P { r with totals := { r.totals with floor := n } }

/-- The request of a slot passed the checks of acceptance (R186). -/
theorem wellFormed_of_requestOf {q : Slot} {i : Instr} (h : requestOf q = some i) : WellFormed i = true := by
  unfold requestOf at h
  split at h
  case h_1 j hj =>
    obtain rfl := Option.some.inj h
    exact (decodeRequest_carried hj).wellFormed
  all_goals cases h

section Steps

variable {P : Records → Prop} {s t : State}

theorem RecordsKept.stands (h : RecordsKept s t) (hs : Stands P s) : Stands P t where
  records := h.records ▸ hs.records
  change := fun p hp => by
    obtain ⟨p', hp', hchange⟩ := h.posting p hp
    exact hchange ▸ hs.change p' hp'

theorem grantLink_stands (hs : Stands P s) {i : Instr} {body : Draft → Draft × Answer}
    (hbody : ∀ d, WellFormed i = true → P d.records → P (body d).1.records) : Stands P (grantLink s i body) := by
  rcases grantLink_cases s i body with h | ⟨q, -, -, hrequest, h⟩ <;> rw [h]
  · exact hs
  · refine ⟨hs.records, fun p hp => ?_⟩
    obtain rfl := Option.some.inj hp
    exact hbody _ (wellFormed_of_requestOf hrequest) hs.records

theorem grantInternal_stands (hs : Stands P s) (k : Kind) (item : Item) {body : Draft → Draft}
    (hbody : ∀ d, P d.records → P (body d).records) : Stands P (grantInternal s k item body) := by
  rcases grantInternal_cases s k item body with h | ⟨-, -, h⟩ <;> rw [h]
  · exact hs
  · refine ⟨hs.records, fun p hp => ?_⟩
    obtain rfl := Option.some.inj hp
    exact hbody _ hs.records

section Keep

variable (hP : PostingsKeep P)
include hP

/-- The records the end of a posting leaves: its change-set, and the floor of a DEVICE clear (R80, R160). -/
theorem endPosting_stands (hs : Stands P s) : Stands P (endPosting s) := by
  cases hp : s.posting with
  | none => simpa only [endPosting, hp] using hs
  | some p =>
    have hchange := hs.change p hp
    have ended : Stands P (finishState (applyChange s p) p) := by
      rw [finishState_applyChange]
      refine ⟨?_, fun p' hp' => by cases hp'⟩
      unfold endedRecords
      cases p.change.finish with
      | plain => exact hchange
      | supplyLevels => exact hchange
      | clearSupplyLow c n =>
        simp only
        split
        · exact hchange
        · exact hP.floor _ _ hchange
    rw [endPosting_eq hp]
    exact ((placed_settled s p).trans ((settle_settled _).trans (expiryTest_settled _))).recordsKept.stands ended

theorem resetFall_stands (hs : Stands P s) : Stands P (resetFall s) := by
  unfold resetFall
  split
  · exact hs
  · split
    · exact RecordsKept.stands (s := endPosting s) (.of_dropped rfl rfl) (endPosting_stands hP hs)
    · exact ⟨hs.records, hs.change⟩

theorem stopDevice_stands (hs : Stands P s) : Stands P (stopDevice s) := by
  unfold stopDevice
  split
  · exact RecordsKept.stands (s := endPosting s) (.of_dropped rfl rfl) (endPosting_stands hP hs)
  · exact hs

theorem expiryGrant_stands (hs : Stands P s) : Stands P (expiryGrant s) := by
  unfold expiryGrant
  split
  · exact hs
  · exact grantInternal_stands hs _ _ (hP.expiry _)

theorem stepGrant_stands (hs : Stands P s) : Stands P (stepGrant s) := by
  unfold stepGrant
  split
  · exact hs
  · exact grantInternal_stands hs _ _ (hP.statement _)

theorem latchGrant_stands (hs : Stands P s) : Stands P (latchGrant s) := by
  unfold latchGrant
  split
  · exact hs
  · exact grantInternal_stands hs _ _ (hP.latch _)

/-- Every row keeps a property of the records that postings keep: it serves reads, grants a posting, ends one, or writes no
record. -/
theorem exec_stands {i : Instr} (hs : Stands P s) (h : exec i s = .next t) : Stands P t := by
  have served : Stands P (readsServed s) := (readsServed_settled s).recordsKept.stands hs
  have measured : ∀ r, Stands P (measure (readsServed s) r) := fun r =>
    (measure_beside _ r).recordsKept.stands served
  by_cases hread : isRead i = true
  · exact (exec_read_settled hread h).recordsKept.stands hs
  rw [Bool.not_eq_true] at hread
  by_cases hreq : isRequest i = true
  · obtain ⟨body, he, -⟩ := exec_posting_kept hreq hread
    obtain rfl := Host.Outcome.next.inj ((he s).symm.trans h)
    by_cases hw : WellFormed i = true
    · obtain ⟨body', he', hk⟩ := hP.request i hreq hread hw
      rw [Host.Outcome.next.inj ((he s).symm.trans (he' s))]
      exact grantLink_stands served (fun d _ => hk d)
    · exact grantLink_stands served (fun d hw' => absurd hw' hw)
  cases i <;> first
    | exact absurd rfl hreq
    | obtain rfl := Host.Outcome.next.inj h
  case nselFall => exact (selFall_beside _).recordsKept.stands served
  case nselRise sdi => exact (selRise_beside sdi _).recordsKept.stands served
  case tick => exact (tickClock_recordsKept _).stands served
  case expiryPosting => exact expiryGrant_stands hP served
  case alarmCutover => exact grantInternal_stands served _ _ hP.alarm
  case statementStep => exact stepGrant_stands hP served
  case latchPosting => exact latchGrant_stands hP served
  case nresetFall => exact resetFall_stands hP served
  case nresetRelease r => exact (resetRelease_recordsKept _).stands (measured r)
  case powerUp r charged =>
    have charge : Beside (measure (readsServed s) r) { measure (readsServed s) r with vhold := charged } :=
      ⟨rfl, rfl, .inl rfl⟩
    exact (charge.recordsKept.trans (powerOn_recordsKept _)).stands (measured r)
  case supplyStop r => exact stopDevice_stands hP (measured r)
  case supplyBelowWarning r => exact (supplyFall_beside _).recordsKept.stands (measured r)
  case supplyAboveRecovery r => exact (supplyRise_beside _).recordsKept.stands (measured r)
  case guardTimerRunsOut r => exact (guardRunsOut_recordsKept _).stands (measured r)
  case postingEnd r => exact endPosting_stands hP (measured r)

/-- A property of the records that every posting keeps is kept by every step. -/
theorem step_stands (hs : Stands P s) (h : step s = .next t) : Stands P t := by
  unfold step at h
  split at h
  · obtain rfl := Host.Outcome.next.inj h
    exact hs
  · next c rest _ =>
    have queue : Stands P { s with pending := rest } := ⟨hs.records, hs.change⟩
    exact exec_stands hP queue h

end Keep
end Steps

/-! The canonical form of the tables (entry 32) -/

theorem tablesInv_iff (s : State) : tablesInv s = true ↔ Stands (fun r => tablesCanonical r = true) s := by
  rw [tablesInv, Bool.and_eq_true, Option.all_eq_true]
  exact ⟨fun h => ⟨h.1, h.2⟩, fun h => ⟨h.records, h.change⟩⟩

theorem postings_keep_tables : PostingsKeep (fun r => tablesCanonical r = true) where
  request := fun _ hq hr _ =>
    have ⟨body, he, hk⟩ := exec_posting_kept hq hr
    ⟨body, he, fun d => (hk d).tables⟩
  expiry := fun id d => (kept_postExpiry d id).tables
  alarm := fun d => (kept_postAlarmCutover d).tables
  statement := fun m d => (kept_postStatementStep d m).tables
  latch := fun m d => (kept_postLatch d m).tables
  floor := fun r _ h => by rw [tablesCanonical_iff] at h ⊢; exact h

/-- Settles O54: every write of a posting keeps the tables canonical, and only postings write them. -/
theorem stepKeepsTablesCanonical : Obligations.StepKeepsTablesCanonical := by
  unfold Obligations.StepKeepsTablesCanonical
  intro s t hs h
  rw [tablesInv_iff] at hs ⊢
  exact step_stands postings_keep_tables hs h

end Sys2Proof.Machine
end

section
/-! PROOFS. The Card Directory (R14 to R24): what a vacated slot leaves behind it, and what lookups find after a serial is
placed and after a slot is vacated. -/

namespace Sys2Proof.Machine

variable {dir dir' : Table DirSlot} {x y j k : Nat}

/-! The ring of slots (R14, R15) -/

theorem homeSlot_lt (x : Nat) : homeSlot x < 32768 := Nat.mod_lt _ (by decide)

theorem nextSlot_lt (j : Nat) : nextSlot j < 32768 := Nat.mod_lt _ (by decide)

theorem nextSlot_ne (j : Nat) : nextSlot j ≠ j := by
  simp only [nextSlot, Config.nSlots]; omega

theorem prevSlot_lt (j : Nat) : prevSlot j < 32768 := Nat.mod_lt _ (by decide)

theorem prevSlot_iterate (hj : j < 32768) (i : Nat) : prevSlot^[i] j = (j + 32767 * i) % 32768 := by
  induction i with
  | zero => exact (Nat.mod_eq_of_lt hj).symm
  | succ i ih =>
    rw [Function.iterate_succ_apply', ih]
    simp only [prevSlot, Config.nSlots]
    omega

theorem prevSlot_iterate_lt (hj : j < 32768) (i : Nat) : prevSlot^[i] j < 32768 := by
  rw [prevSlot_iterate hj]; exact Nat.mod_lt _ (by decide)

theorem nextSlot_prevSlot (hj : j < 32768) : nextSlot (prevSlot j) = j := by
  simp only [nextSlot, prevSlot, Config.nSlots]; omega

/-- The slot before a slot of a run is the next of the run, seen from the other side. -/
theorem nextSlot_iterate_succ (hj : j < 32768) (i : Nat) : nextSlot (prevSlot^[i + 1] j) = prevSlot^[i] j := by
  rw [Function.iterate_succ_apply', nextSlot_prevSlot (prevSlot_iterate_lt hj i)]

/-- Stepping back returns to a slot only after the whole ring. -/
theorem prevSlot_iterate_ne (hj : j < 32768) {i : Nat} (h1 : 1 ≤ i) (hi : i < 32768) : prevSlot^[i] j ≠ j := by
  rw [prevSlot_iterate hj]; omega

/-- The slot after a slot is the last one that stepping back reaches. -/
theorem prevSlot_iterate_ring (hj : j < 32768) : prevSlot^[32767] j = nextSlot j := by
  rw [prevSlot_iterate hj]
  simp only [nextSlot, Config.nSlots]
  omega

/-! The cleanup of a run (R23) -/

theorem mem_of_tableFind {α : Type} {t : Table α} {v : α} (h : tableFind t k = some v) : (k, v) ∈ t := by
  induction t with
  | nil => cases h
  | cons e rest ih =>
    unfold tableFind at h
    split at h
    · next he => obtain rfl := Option.some.inj h; exact he ▸ List.mem_cons_self
    · exact List.mem_cons_of_mem _ (ih h)

/-- A slot that is not EMPTY is listed. -/
theorem slotState_listed (h : slotState dir j ≠ .empty) : (j, slotState dir j) ∈ dir := by
  unfold slotState tableGet at h ⊢
  cases hf : tableFind dir j with
  | none => rw [hf] at h; exact absurd rfl h
  | some v => exact mem_of_tableFind hf

/-- Unlisting a slot that is not EMPTY shortens the table. -/
theorem tableErase_shorter (h : slotState dir j ≠ .empty) : (tableErase dir j).length < dir.length := by
  rw [tableErase, List.length_filter_lt_length_iff_exists]
  exact ⟨_, slotState_listed h, by simp⟩

theorem emptyRunBack_stop (h : slotState dir j ≠ .vacated) (fuel : Nat) : emptyRunBack fuel dir j = dir := by
  cases fuel with
  | zero => rfl
  | succ fuel =>
    unfold emptyRunBack
    split
    · next hv => exact absurd hv h
    · rfl
    · rfl

theorem emptyRunBack_vacated (h : slotState dir j = .vacated) (fuel : Nat) :
    emptyRunBack (fuel + 1) dir j = emptyRunBack fuel (tableErase dir j) (prevSlot j) := by
  rw [emptyRunBack, h]

/-- The run of `n` VACATED slots that ends at `j`, with none before it, becomes EMPTY, and every other slot stands (R23). -/
theorem emptyRunBack_state {n fuel : Nat} (hj : j < 32768) (hn : n < 32768)
    (hrun : ∀ i < n, slotState dir (prevSlot^[i] j) = .vacated) (hend : slotState dir (prevSlot^[n] j) ≠ .vacated)
    (hfuel : dir.length ≤ fuel) (k : Nat) :
    slotState (emptyRunBack fuel dir j) k = if ∃ i < n, k = prevSlot^[i] j then .empty else slotState dir k := by
  induction n generalizing fuel dir j with
  | zero =>
    have stop : slotState dir j ≠ .vacated := hend
    rw [emptyRunBack_stop stop, if_neg (by simp)]
  | succ n ih =>
    have hvacated : slotState dir j = .vacated := hrun 0 (Nat.succ_pos n)
    have hshort : (tableErase dir j).length < dir.length := tableErase_shorter (by simp [hvacated])
    obtain ⟨fuel, rfl⟩ : ∃ f, fuel = f + 1 := ⟨fuel - 1, by omega⟩
    have stands : ∀ i < n + 1,
        slotState (tableErase dir j) (prevSlot^[i] (prevSlot j)) = slotState dir (prevSlot^[i + 1] j) := fun i hi => by
      rw [slotState_erase, ← Function.iterate_succ_apply, if_neg (prevSlot_iterate_ne hj (by omega) (by omega))]
    rw [emptyRunBack_vacated hvacated, ih (prevSlot_lt j) (by omega)
      (fun i hi => (stands i (by omega)).trans (hrun (i + 1) (by omega))) (by rw [stands n (by omega)]; exact hend)
      (by omega), slotState_erase]
    have split_run : (∃ i < n + 1, k = prevSlot^[i] j) ↔ k = j ∨ ∃ i < n, k = prevSlot^[i] (prevSlot j) :=
      Nat.exists_lt_succ_left (p := fun i => k = prevSlot^[i] j)
    by_cases hk : k = j
    · rw [if_pos hk, if_pos (split_run.2 (.inl hk)), ite_self]
    · rw [if_neg hk]
      exact ite_congr (propext (split_run.trans (by simp [hk]))).symm (fun _ => rfl) (fun _ => rfl)

/-- A vacated slot whose next one is not EMPTY stays VACATED, and no other slot changes (R22). -/
theorem vacate_before_used (hnext : slotState dir (nextSlot j) ≠ .empty) (k : Nat) :
    slotState (vacate dir j) k = if k = j then .vacated else slotState dir k := by
  have stands : slotState (tablePut .empty dir j .vacated) (nextSlot j) = slotState dir (nextSlot j) := by
    rw [slotState_put, if_neg (nextSlot_ne j)]
  unfold vacate
  simp only [stands]
  split
  · next he => exact absurd he hnext
  · exact slotState_put _ _ _ _
  · exact slotState_put _ _ _ _

/-- A vacated slot whose next one is EMPTY becomes EMPTY with the run of `n` VACATED slots just before it, and no other slot
changes (R23). -/
theorem vacate_before_empty (hj : j < 32768) (hnext : slotState dir (nextSlot j) = .empty) :
    ∃ n, (∀ i, 1 ≤ i → i ≤ n → slotState dir (prevSlot^[i] j) = .vacated) ∧
      slotState dir (prevSlot^[n + 1] j) ≠ .vacated ∧
      ∀ k, slotState (vacate dir j) k = if ∃ i ≤ n, k = prevSlot^[i] j then .empty else slotState dir k := by
  have ends : ∃ n, slotState dir (prevSlot^[n + 1] j) ≠ .vacated :=
    ⟨32766, by rw [prevSlot_iterate_ring hj, hnext]; simp⟩
  obtain ⟨n, hend, hfirst⟩ : ∃ n, slotState dir (prevSlot^[n + 1] j) ≠ .vacated ∧
      ∀ i < n, slotState dir (prevSlot^[i + 1] j) = .vacated :=
    ⟨Nat.find ends, Nat.find_spec ends, fun i hi => not_not.1 (Nat.find_min ends hi)⟩
  have hn : n ≤ 32766 := by
    by_contra hlong
    have hv := hfirst 32766 (by omega)
    rw [prevSlot_iterate_ring hj, hnext] at hv
    cases hv
  have hrun : ∀ i, 1 ≤ i → i ≤ n → slotState dir (prevSlot^[i] j) = .vacated := fun i h1 hi => by
    obtain ⟨i, rfl⟩ : ∃ i', i = i' + 1 := ⟨i - 1, by omega⟩
    exact hfirst i (by omega)
  refine ⟨n, hrun, hend, fun k => ?_⟩
  have state := slotState_put dir j .vacated
  have stands : ∀ i, 1 ≤ i → i < 32768 →
      slotState (tablePut .empty dir j .vacated) (prevSlot^[i] j) = slotState dir (prevSlot^[i] j) := fun i h1 hi => by
    rw [state, if_neg (prevSlot_iterate_ne hj h1 hi)]
  have cleaned : vacate dir j =
      emptyRunBack (tablePut .empty dir j .vacated).length (tablePut .empty dir j .vacated) j := by
    have hempty : slotState (tablePut .empty dir j .vacated) (nextSlot j) = .empty := by
      rw [state, if_neg (nextSlot_ne j), hnext]
    unfold vacate
    simp only [hempty]
  have run : ∀ i < n + 1, slotState (tablePut .empty dir j .vacated) (prevSlot^[i] j) = .vacated := fun i hi => by
    rcases Nat.eq_zero_or_pos i with rfl | h1
    · exact (state j).trans (if_pos rfl)
    · rw [stands i h1 (by omega)]; exact hrun i h1 (by omega)
  rw [cleaned, emptyRunBack_state hj (by omega) run (by rw [stands _ (by omega) (by omega)]; exact hend) le_rfl, state]
  simp only [Nat.lt_succ_iff]
  split
  · rfl
  · next hk => exact if_neg (fun he => hk ⟨0, Nat.zero_le n, he⟩)

/-- Settles O32, by the state of the slot after the vacated one. -/
theorem cleanupEmptiesTheRun : Obligations.CleanupEmptiesTheRun := by
  unfold Obligations.CleanupEmptiesTheRun
  intro dir j x hj _
  refine ⟨fun hnext => vacate_before_used hnext, fun hnext => ?_⟩
  obtain ⟨n, hrun, hend, hstate⟩ := vacate_before_empty hj hnext
  exact ⟨n, hrun, hend, fun i hi => (hstate _).trans (if_pos ⟨i, hi, rfl⟩),
    fun k hk => (hstate k).trans (if_neg (fun ⟨i, hi, he⟩ => hk i hi he))⟩

/-! The walk of a lookup (R16) -/

/-- A slot state that a lookup of `y` walks past (R16). -/
def Passed (y : Nat) : DirSlot → Prop
  | .empty => False
  | .used s => s ≠ y
  | .vacated => True

theorem walk_found {n : Nat} {f : Option Nat} (h : slotState dir j = .used y) :
    walk dir y (n + 1) j f = { slot := some j, free := f } := by
  simp [walk, h]

theorem walk_empty {n : Nat} {f : Option Nat} (h : slotState dir j = .empty) :
    walk dir y (n + 1) j f = { slot := none, free := f <|> some j } := by
  simp [walk, h]

theorem walk_vacated {n : Nat} {f : Option Nat} (h : slotState dir j = .vacated) :
    walk dir y (n + 1) j f = walk dir y n (nextSlot j) (f <|> some j) := by
  simp [walk, h]

theorem walk_other {n : Nat} {f : Option Nat} {s : Nat} (h : slotState dir j = .used s) (hs : s ≠ y) :
    walk dir y (n + 1) j f = walk dir y n (nextSlot j) f := by
  simp [walk, h, hs]

/-- What the slot of a lookup can be: found here, EMPTY, or walked past. -/
theorem slot_cases (dir : Table DirSlot) (y j : Nat) :
    slotState dir j = .used y ∨ slotState dir j = .empty ∨ Passed y (slotState dir j) := by
  cases h : slotState dir j with
  | empty => exact .inr (.inl rfl)
  | vacated => exact .inr (.inr trivial)
  | used s =>
    by_cases hs : s = y
    · exact .inl (hs ▸ rfl)
    · exact .inr (.inr hs)

/-- A slot walked past leaves the search to the slots after it; what is found does not depend on the free slot seen. -/
theorem walk_passed {n : Nat} {f : Option Nat} (h : Passed y (slotState dir j)) :
    ∃ g, walk dir y (n + 1) j f = walk dir y n (nextSlot j) g := by
  cases hs : slotState dir j with
  | empty => rw [hs] at h; exact h.elim
  | vacated => exact ⟨_, walk_vacated hs⟩
  | used s => exact ⟨_, walk_other hs (by rw [hs] at h; exact h)⟩

/-- A lookup hands back only a slot that holds its serial (R16, R17). -/
theorem walk_slot_used {n i : Nat} {f : Option Nat} (h : (walk dir y n i f).slot = some k) : slotState dir k = .used y := by
  induction n generalizing i f with
  | zero => cases h
  | succ n ih =>
    rcases slot_cases dir y i with hi | hi | hi
    · rw [walk_found hi] at h
      exact Option.some.inj h ▸ hi
    · rw [walk_empty hi] at h; cases h
    · obtain ⟨g, hg⟩ := walk_passed (n := n) (f := f) hi
      exact ih (hg ▸ h)

theorem walk_slot_lt {n i : Nat} {f : Option Nat} (hi : i < 32768) (h : (walk dir y n i f).slot = some k) : k < 32768 := by
  induction n generalizing i f with
  | zero => cases h
  | succ n ih =>
    rcases slot_cases dir y i with hs | hs | hs
    · rw [walk_found hs] at h
      exact Option.some.inj h ▸ hi
    · rw [walk_empty hs] at h; cases h
    · obtain ⟨g, hg⟩ := walk_passed (n := n) (f := f) hs
      exact ih (nextSlot_lt i) (hg ▸ h)

/-- The first free slot a walk has seen stays the one it hands back (R16). -/
theorem walk_free_some (n i a : Nat) : (walk dir y n i (some a)).free = some a := by
  induction n generalizing i with
  | zero => rfl
  | succ n ih =>
    cases hs : slotState dir i with
    | empty => rw [walk_empty hs]; rfl
    | vacated => rw [walk_vacated hs]; exact ih _
    | used s =>
      by_cases he : s = y
      · rw [walk_found (he ▸ hs)]
      · rw [walk_other hs he]; exact ih _

/-- The walk of a lookup that finds nothing and hands back the slot `j`: it walks past used slots up to `j`, which is free,
and would find its serial if it stood there (R18). -/
theorem walk_placed {n i : Nat} (h : walk dir x n i none = { slot := none, free := some j }) (hi : i < 32768) :
    j < 32768 ∧ (slotState dir j = .empty ∨ slotState dir j = .vacated) ∧
      ∀ f, (walk (tablePut .empty dir j (.used x)) x n i f).slot = some j := by
  induction n generalizing i with
  | zero => cases h
  | succ n ih =>
    have here : (slotState dir i = .empty ∨ slotState dir i = .vacated) → i = j → j < 32768 ∧
        (slotState dir j = .empty ∨ slotState dir j = .vacated) ∧
        ∀ f, (walk (tablePut .empty dir j (.used x)) x (n + 1) i f).slot = some j := by
      rintro hfree rfl
      exact ⟨hi, hfree, fun f => by rw [walk_found ((slotState_put _ _ _ _).trans (if_pos rfl))]⟩
    cases hs : slotState dir i with
    | empty =>
      rw [walk_empty hs] at h
      exact here (.inl hs) (Option.some.inj (congrArg Found.free h))
    | vacated =>
      rw [walk_vacated hs] at h
      have hfree := congrArg Found.free h
      exact here (.inr hs) (Option.some.inj ((walk_free_some n _ i).symm.trans hfree))
    | used s =>
      by_cases he : s = x
      · rw [walk_found (he ▸ hs)] at h; cases h
      · rw [walk_other hs he] at h
        obtain ⟨hj, hfree, hfound⟩ := ih h (nextSlot_lt i)
        have hne : i ≠ j := by
          rintro rfl
          rw [hs] at hfree
          rcases hfree with hf | hf <;> cases hf
        refine ⟨hj, hfree, fun f => ?_⟩
        rw [walk_other ((slotState_put _ _ _ _).trans ((if_neg hne).trans hs)) he]
        exact hfound f

/-- A lookup that finds its serial finds it still after a change of slots it walks past; the slots in `dead` lead it to an
EMPTY one, so it comes through none of them. -/
theorem walk_kept {dead : Nat → Prop}
    (hdead : ∀ i, dead i → slotState dir i = .empty ∨ Passed y (slotState dir i) ∧ dead (nextSlot i))
    (hsame : ∀ i, ¬ dead i → slotState dir' i = slotState dir i ∨
      Passed y (slotState dir i) ∧ Passed y (slotState dir' i))
    {n i : Nat} {f g : Option Nat} (h : (walk dir y n i f).slot = some k) : (walk dir' y n i g).slot = some k := by
  have lost : ∀ (n i : Nat) (f : Option Nat), dead i → (walk dir y n i f).slot = none := by
    intro n
    induction n with
    | zero => exact fun _ _ _ => rfl
    | succ n ih =>
      intro i f hi
      rcases hdead i hi with hs | ⟨hs, hnext⟩
      · rw [walk_empty hs]
      · obtain ⟨g, hg⟩ := walk_passed (n := n) (f := f) hs
        rw [hg]
        exact ih _ _ hnext
  induction n generalizing i f g with
  | zero => cases h
  | succ n ih =>
    have hlive : ¬ dead i := fun hi => by rw [lost _ _ _ hi] at h; cases h
    have passed : Passed y (slotState dir i) → Passed y (slotState dir' i) →
        (walk dir' y (n + 1) i g).slot = some k := fun h1 h2 => by
      obtain ⟨f', hf⟩ := walk_passed (n := n) (f := f) h1
      obtain ⟨g', hg⟩ := walk_passed (n := n) (f := g) h2
      rw [hg]
      exact ih (hf ▸ h)
    rcases hsame i hlive with hs | ⟨h1, h2⟩
    · rcases slot_cases dir y i with hi | hi | hi
      · rw [walk_found hi] at h
        rw [walk_found (hs.trans hi)]
        exact h
      · rw [walk_empty hi] at h; cases h
      · exact passed hi (hs ▸ hi)
    · exact passed h1 h2

/-- A lookup that finds nothing still finds nothing after slots became VACATED or EMPTY. -/
theorem walk_lost (hsame : ∀ i, slotState dir' i = slotState dir i ∨ slotState dir' i = .empty ∨
      slotState dir' i = .vacated ∧ slotState dir i ≠ .empty)
    {n i : Nat} {f g : Option Nat} (h : (walk dir y n i f).slot = none) : (walk dir' y n i g).slot = none := by
  induction n generalizing i f g with
  | zero => rfl
  | succ n ih =>
    have passed : Passed y (slotState dir i) → Passed y (slotState dir' i) →
        (walk dir' y (n + 1) i g).slot = none := fun h1 h2 => by
      obtain ⟨f', hf⟩ := walk_passed (n := n) (f := f) h1
      obtain ⟨g', hg⟩ := walk_passed (n := n) (f := g) h2
      rw [hg]
      exact ih (hf ▸ h)
    rcases slot_cases dir y i with hi | hi | hi
    · rw [walk_found hi] at h; cases h
    · rcases hsame i with hs | hs | ⟨-, hs⟩
      · rw [walk_empty (hs.trans hi)]
      · rw [walk_empty hs]
      · exact absurd hi hs
    · rcases hsame i with hs | hs | ⟨hs, -⟩
      · exact passed hi (hs ▸ hi)
      · rw [walk_empty hs]
      · exact passed hi (by rw [hs]; trivial)

/-! Lookups (R16 to R19, R22 to R24) -/

theorem lookup_slot_used (h : (lookup dir y).slot = some k) : slotState dir k = .used y := walk_slot_used h

theorem lookup_slot_lt (h : (lookup dir y).slot = some k) : k < 32768 := walk_slot_lt (homeSlot_lt y) h

/-- A lookup that finds nothing hands back a slot that is EMPTY or VACATED, and finds its serial once it is placed there
(R18, R19). -/
theorem lookup_placed (h : lookup dir x = { slot := none, free := some j }) :
    j < 32768 ∧ (slotState dir j = .empty ∨ slotState dir j = .vacated) ∧
      (lookup (tablePut .empty dir j (.used x)) x).slot = some j := by
  obtain ⟨hj, hfree, hfound⟩ := walk_placed h (homeSlot_lt x)
  exact ⟨hj, hfree, hfound none⟩

/-- A serial placed in a free slot leaves every other serial found where it was. -/
theorem lookup_placed_other (hfree : slotState dir j = .empty ∨ slotState dir j = .vacated) (hy : y ≠ x)
    (h : (lookup dir y).slot = some k) : (lookup (tablePut .empty dir j (.used x)) y).slot = some k := by
  refine walk_kept (dead := fun i => slotState dir i = .empty) (fun i hi => .inl hi) (fun i hi => ?_) h
  rw [slotState_put]
  split
  · next hij =>
    subst hij
    rcases hfree with hf | hf
    · exact absurd hf hi
    · exact .inr ⟨by rw [hf]; trivial, fun he => hy he.symm⟩
  · exact .inl rfl

/-- What a vacated slot leaves of each slot: it stands, or it was not EMPTY and is VACATED or EMPTY now. -/
theorem vacate_state (hj : j < 32768) (hx : slotState dir j = .used x) (i : Nat) :
    i ≠ j ∧ slotState (vacate dir j) i = slotState dir i ∨
      slotState (vacate dir j) i = .empty ∨ slotState (vacate dir j) i = .vacated ∧ slotState dir i ≠ .empty := by
  by_cases hnext : slotState dir (nextSlot j) = .empty
  · obtain ⟨n, -, -, hstate⟩ := vacate_before_empty hj hnext
    rw [hstate]
    split
    · exact .inr (.inl rfl)
    · next hi => exact .inl ⟨fun he => hi ⟨0, Nat.zero_le n, he⟩, rfl⟩
  · rw [vacate_before_used hnext]
    split
    · next hi => exact .inr (.inr ⟨rfl, by rw [hi, hx]; simp⟩)
    · next hi => exact .inl ⟨hi, rfl⟩

/-- A USED slot after a vacating is another one, which was USED alike. -/
theorem vacate_used (hj : j < 32768) (hx : slotState dir j = .used x) (h : slotState (vacate dir j) k = .used y) :
    k ≠ j ∧ slotState dir k = .used y := by
  rcases vacate_state hj hx k with ⟨hk, hs⟩ | hs | ⟨hs, -⟩
  · exact ⟨hk, hs ▸ h⟩
  · rw [hs] at h; cases h
  · rw [hs] at h; cases h

/-- A vacated slot, with its cleanup, leaves every other serial found where it was: a lookup that comes through the run that
becomes EMPTY came to the EMPTY slot behind it (R23). -/
theorem lookup_vacate_other (hj : j < 32768) (hx : slotState dir j = .used x) (hy : y ≠ x)
    (h : (lookup dir y).slot = some k) : (lookup (vacate dir j) y).slot = some k := by
  have passed : Passed y (slotState dir j) := by rw [hx]; exact hy.symm
  by_cases hnext : slotState dir (nextSlot j) = .empty
  · obtain ⟨n, hrun, -, hstate⟩ := vacate_before_empty hj hnext
    refine walk_kept (dead := fun i => slotState dir i = .empty ∨ ∃ m ≤ n, i = prevSlot^[m] j) ?_ (fun i hi => ?_) h
    · rintro i (hi | ⟨m, hm, rfl⟩)
      · exact .inl hi
      · cases m with
        | zero => exact .inr ⟨passed, .inl hnext⟩
        | succ m =>
          refine .inr ⟨by rw [hrun _ (by omega) hm]; trivial, .inr ⟨m, by omega, nextSlot_iterate_succ hj m⟩⟩
    · rw [hstate, if_neg (fun he => hi (.inr he))]
      exact .inl rfl
  · refine walk_kept (dead := fun i => slotState dir i = .empty) (fun i hi => .inl hi) (fun i _ => ?_) h
    rw [vacate_before_used hnext]
    split
    · next hi => exact .inr ⟨hi ▸ passed, trivial⟩
    · exact .inl rfl

/-- A vacated slot makes no serial found. -/
theorem lookup_vacate_none (hj : j < 32768) (hx : slotState dir j = .used x) (h : (lookup dir y).slot = none) :
    (lookup (vacate dir j) y).slot = none :=
  walk_lost (fun i => (vacate_state hj hx i).imp_left And.right) h

/-- Settles O31: what a lookup walks past stays walked past, and what it finds is a slot that holds its serial. -/
theorem lookupFindsWhatWasPlaced : Obligations.LookupFindsWhatWasPlaced := by
  unfold Obligations.LookupFindsWhatWasPlaced
  refine ⟨fun dir x j h => ?_, fun dir x j hj hx => ⟨fun y k hy h => lookup_vacate_other hj hx hy h,
    fun y h => lookup_vacate_none hj hx h, fun halone => ?_⟩⟩
  · obtain ⟨-, hfree, hfound⟩ := lookup_placed h
    exact ⟨hfound, fun y k hy hk => lookup_placed_other hfree hy hk, fun y k hk => lookup_slot_used hk⟩
  · by_contra hsome
    obtain ⟨k, hk⟩ := Option.ne_none_iff_exists'.1 hsome
    obtain ⟨hkj, hused⟩ := vacate_used hj hx (lookup_slot_used hk)
    exact hkj (halone k hused)

end Sys2Proof.Machine
end

section
/-! PROOFS. The accounts read number by number (R24, R29, R52, R53, R96, R102): what each write of a posting does to them. -/

namespace Sys2Proof.Machine

/-! Sums over a table -/

/-- The sum of a figure over the records of a table. -/
def tableSum {α : Type} (f : α → Nat) (t : Table α) : Nat := (t.map (fun e => f e.2)).sum

section Sums

variable {α : Type} (f : α → Nat) {t : Table α} {k : Nat} {v w : α}

@[simp] theorem tableSum_cons (e : Nat × α) (t : Table α) : tableSum f (e :: t) = f e.2 + tableSum f t := by
  simp [tableSum]

theorem length_eq_tableSum (t : Table α) : t.length = tableSum (fun _ => 1) t := by simp [tableSum]

theorem tableSum_insert_new (h : tableFind t k = none) : tableSum f (tableInsert t k v) = tableSum f t + f v := by
  induction t with
  | nil => simp [tableInsert, tableSum]
  | cons e rest ih =>
    simp only [tableFind] at h
    split at h
    · cases h
    · next hne =>
      simp only [tableInsert]
      split
      · simp; omega
      · rw [tableSum_cons, ih h, tableSum_cons]; omega

theorem tableSum_insert (hr : rising t = true) (h : tableFind t k = some w) :
    tableSum f (tableInsert t k v) + f w = tableSum f t + f v := by
  induction t with
  | nil => cases h
  | cons e rest ih =>
    obtain ⟨hrest, hlt⟩ := rising_cons hr
    simp only [tableFind] at h
    simp only [tableInsert]
    split at h
    · next he =>
      obtain rfl := Option.some.inj h
      rw [if_neg (by omega), if_pos he, tableSum_cons, tableSum_cons, Nat.add_right_comm, Nat.add_comm (f v)]
      omega
    · next hne =>
      have hk := hlt _ (mem_of_tableFind h)
      rw [if_neg (Nat.not_lt_of_lt hk), if_neg hne, tableSum_cons, tableSum_cons]
      have := ih hrest h
      omega

theorem tableErase_absent (h : tableFind t k = none) : tableErase t k = t := by
  rw [tableErase, List.filter_eq_self]
  induction t with
  | nil => simp
  | cons e rest ih =>
    simp only [tableFind] at h
    split at h
    · cases h
    · next hne => simpa [hne] using ih h

theorem tableSum_erase (hr : rising t = true) (h : tableFind t k = some w) :
    tableSum f (tableErase t k) + f w = tableSum f t := by
  induction t with
  | nil => cases h
  | cons e rest ih =>
    obtain ⟨hrest, hlt⟩ := rising_cons hr
    simp only [tableFind] at h
    split at h
    · next he =>
      obtain rfl := Option.some.inj h
      have habsent : tableFind rest k = none := by
        by_contra hsome
        obtain ⟨v, hv⟩ := Option.ne_none_iff_exists'.1 hsome
        exact absurd (hlt _ (mem_of_tableFind hv)) (by omega)
      have herase : tableErase (e :: rest) k = tableErase rest k := by simp [tableErase, he]
      rw [herase, tableErase_absent habsent, tableSum_cons]; omega
    · next hne =>
      have herase : tableErase (e :: rest) k = e :: tableErase rest k := by simp [tableErase, hne]
      rw [herase, tableSum_cons, tableSum_cons]
      have := ih hrest h
      omega

/-- A rising table with its numbers below `n` lists at most `n` records. -/
theorem rising_length_le {n : Nat} (hr : rising t = true) (h : ∀ e ∈ t, e.1 < n) : t.length ≤ n := by
  have hnodup : (t.map Prod.fst).Nodup :=
    List.pairwise_map.2 (((rising_iff t).1 hr).imp (fun hlt => Nat.ne_of_lt hlt))
  have hsub : t.map Prod.fst ⊆ List.range n := fun k hk => by
    obtain ⟨e, he, rfl⟩ := List.mem_map.1 hk
    exact List.mem_range.2 (h e he)
  simpa using (hnodup.subperm hsub).length_le

theorem tableSum_le {b : Nat} (h : ∀ e ∈ t, f e.2 ≤ b) : tableSum f t ≤ t.length * b := by
  have := List.sum_le_card_nsmul (t.map (fun e => f e.2)) b (fun x hx => by
    obtain ⟨e, he, rfl⟩ := List.mem_map.1 hx
    exact h e he)
  simpa [tableSum] using this

end Sums

/-- Available and held of a card. -/
def Card.value (c : Card) : Nat := c.available + c.held

theorem cardValue_eq (r : Records) : cardValue r = tableSum Card.value r.cards := rfl

/-! The accounts, number by number -/

/-- A card in its slot: its fields agree with its state, a lookup of its serial finds it, and held and open holds are the
sums over its entries of the Hold Table (R24, R29, R53). -/
structure CardStands (r : Records) (j : Nat) (c : Card) : Prop where
  state : CardAsItsState c
  found : (lookup r.directory c.serial).slot = some j
  held : c.held = ((holdsOn r j).map Hold.amount).sum
  openHolds : c.openHolds = (holdsOn r j).length
  few : c.openHolds ≤ 4

/-- The accounts agree, but that outstanding is short by `v` of the value on the cards. -/
structure Agrees (v : Int) (r : Records) : Prop where
  rising : rising r.cards = true
  card : ∀ j c, tableFind r.cards j = some c → CardStands r j c
  slot : ∀ j x, slotState r.directory j = .used x → tableFind r.cards j ≠ none
  listed : ∀ j, slotState r.directory j ≠ .empty → j < 32768
  occupancy : r.occupancy = r.cards.length
  holds : HoldsInOrder r
  counts : ∀ m, (merchantOf r m).openHolds = (holdsOf r m).length
  outstanding : r.totals.outstanding + v = cardValue r
  cap : r.limits.value.cap ≤ 100000000
  desk : (merchantOf r 0).state = .enrolled ∨ (merchantOf r 0).state = .suspended

theorem CardStands.placed {r : Records} {j : Nat} {c : Card} (h : CardStands r j c) :
    slotState r.directory j = .used c.serial := lookup_slot_used h.found

theorem CardStands.slot_lt {r : Records} {j : Nat} {c : Card} (h : CardStands r j c) : j < 32768 := lookup_slot_lt h.found

/-- The slot of a listed entry reads as that entry. -/
theorem slotState_of_mem {dir : Table DirSlot} (h : Sys2Proof.Machine.rising dir = true) {e : Nat × DirSlot}
    (he : e ∈ dir) : slotState dir e.1 = e.2 := by
  rw [slotState, tableGet, (tableFind_eq_some_iff h e.1 e.2).2 he]; rfl

theorem mem_holdsOf {r : Records} {m : Nat} {h : Hold} : h ∈ holdsOf r m ↔ h ∈ r.holds ∧ h.merchant = m := by
  simp [holdsOf]

theorem mem_holdsOn {r : Records} {j : Nat} {h : Hold} : h ∈ holdsOn r j ↔ h ∈ r.holds ∧ h.slot = j := by
  simp [holdsOn]

/-- The accounts agree as the statement gives them exactly when the tables are canonical and they agree number by
number. -/
theorem accountsAgree_iff (r : Records) : AccountsAgree r ↔ tablesCanonical r = true ∧ Agrees 0 r := by
  constructor
  · rintro ⟨htables, hstate, ⟨hplaced, hlisted, hocc⟩, hholds, ⟨hcards, hmerchants⟩, hout, hcap, hdesk⟩
    obtain ⟨-, hrising, hcanonical, -, -⟩ := (tablesCanonical_iff r).1 htables
    refine ⟨htables, hrising, fun j c hc => ?_, fun j x hx => ?_, fun j hj => ?_, hocc, hholds, fun m => ?_,
      by simpa using hout, hcap, hdesk⟩
    · have hmem := mem_of_tableFind hc
      obtain ⟨-, -, hfound⟩ := hplaced _ hmem
      obtain ⟨hheld, hopen, hfew⟩ := hcards _ hmem
      exact ⟨hstate _ hmem, hfound, hheld, hopen, hfew⟩
    · have hmem := slotState_listed (dir := r.directory) (j := j) (by rw [hx]; simp)
      rw [hx] at hmem
      exact (hlisted _ hmem).2 (by simp)
    · exact (hlisted _ (slotState_listed hj)).1
    · cases hf : tableFind r.merchants m with
      | some x =>
        have hmem := mem_of_tableFind hf
        rw [merchantOf_listed (canonical_rising hcanonical) hmem]
        exact hmerchants _ hmem
      | none =>
        have hm : merchantOf r m = unenrolledMerchant := by rw [merchantOf, tableGet, hf]; rfl
        have hnone : holdsOf r m = [] := List.eq_nil_iff_forall_not_mem.2 (fun h hh => by
          obtain ⟨hmem, rfl⟩ := mem_holdsOf.1 hh
          obtain ⟨-, -, -, -, -, hall⟩ := hholds
          obtain ⟨-, -, -, -, htrades⟩ := hall h hmem
          rw [hm] at htrades
          rcases htrades with ht | ht <;> cases ht)
        rw [hm, hnone]
        rfl
  · rintro ⟨htables, h⟩
    obtain ⟨hdir, hrising, hmerchants, -, -⟩ := (tablesCanonical_iff r).1 htables
    have stands : ∀ e ∈ r.cards, CardStands r e.1 e.2 := fun e he => h.card _ _ ((tableFind_eq_some_iff hrising _ _).2 he)
    refine ⟨htables, fun e he => (stands e he).state, ⟨fun e he => ?_, fun e he => ?_, h.occupancy⟩, h.holds,
      ⟨fun e he => ?_, fun e he => ?_⟩, by simpa using h.outstanding, h.cap, h.desk⟩
    · exact ⟨(stands e he).slot_lt, (stands e he).placed, (stands e he).found⟩
    · have hstate := slotState_of_mem (canonical_rising hdir) he
      simp only [canonical, Bool.and_eq_true, List.all_eq_true, decide_eq_true_eq] at hdir
      refine ⟨h.listed _ (hstate ▸ hdir.2 e he), fun hne => ?_⟩
      cases hs : e.2 with
      | empty => exact absurd hs (hdir.2 e he)
      | vacated => exact absurd hs hne
      | used x => exact h.slot _ x (hstate.trans hs)
    · exact ⟨(stands e he).held, (stands e he).openHolds, (stands e he).few⟩
    · rw [← h.counts, merchantOf_listed (canonical_rising hmerchants) he]

/-! Writes beside the accounts -/

/-- The records differ in nothing the accounts are about. -/
structure SameBooks (r r' : Records) : Prop where
  directory : r'.directory = r.directory
  occupancy : r'.occupancy = r.occupancy
  cards : r'.cards = r.cards
  holds : r'.holds = r.holds
  counter : r'.holdIdCounter = r.holdIdCounter
  outstanding : r'.totals.outstanding = r.totals.outstanding
  cap : r'.limits.value.cap = r.limits.value.cap
  merchants : ∀ m, (merchantOf r' m).state = (merchantOf r m).state ∧
    (merchantOf r' m).openHolds = (merchantOf r m).openHolds

theorem SameBooks.refl (r : Records) : SameBooks r r := ⟨rfl, rfl, rfl, rfl, rfl, rfl, rfl, fun _ => ⟨rfl, rfl⟩⟩

theorem SameBooks.trans {r s t : Records} (h : SameBooks r s) (k : SameBooks s t) : SameBooks r t where
  directory := k.directory.trans h.directory
  occupancy := k.occupancy.trans h.occupancy
  cards := k.cards.trans h.cards
  holds := k.holds.trans h.holds
  counter := k.counter.trans h.counter
  outstanding := k.outstanding.trans h.outstanding
  cap := k.cap.trans h.cap
  merchants := fun m => ⟨(k.merchants m).1.trans (h.merchants m).1, (k.merchants m).2.trans (h.merchants m).2⟩

/-- Accounts that agree still do where nothing they are about has changed. -/
theorem Agrees.same {v : Int} {r r' : Records} (h : Agrees v r) (k : SameBooks r r') : Agrees v r' := by
  have hon : ∀ j, holdsOn r' j = holdsOn r j := fun j => by rw [holdsOn, k.holds]; rfl
  obtain ⟨horder, hids, hlen, hlow, hhigh, hall⟩ := h.holds
  exact {
    rising := k.cards ▸ h.rising
    card := fun j c hc => by
      obtain ⟨hstate, hfound, hheld, hopen, hfew⟩ := h.card j c (k.cards ▸ hc)
      exact ⟨hstate, k.directory ▸ hfound, by rw [hon]; exact hheld, by rw [hon]; exact hopen, hfew⟩
    slot := fun j x hx => by rw [k.cards]; exact h.slot j x (k.directory ▸ hx)
    listed := fun j hj => h.listed j (k.directory ▸ hj)
    occupancy := by rw [k.occupancy, k.cards]; exact h.occupancy
    holds := by
      rw [HoldsInOrder, k.holds, k.counter, k.cards]
      refine ⟨horder, hids, hlen, hlow, hhigh, fun x hx => ?_⟩
      rw [(k.merchants x.merchant).1]
      exact hall x hx
    counts := fun m => by
      rw [(k.merchants m).2, holdsOf, k.holds]
      exact h.counts m
    outstanding := by rw [k.outstanding, cardValue_eq, k.cards]; exact h.outstanding
    cap := k.cap ▸ h.cap
    desk := by rw [(k.merchants 0).1]; exact h.desk }

section Neutral

variable (d : Draft)

/-- A write of a merchant that moves neither its state nor its open holds. -/
theorem sameBooks_putMerchant {m : Nat} {x : Merchant} (hstate : x.state = (merchantOf d.records m).state)
    (hopen : x.openHolds = (merchantOf d.records m).openHolds) : SameBooks d.records (d.putMerchant m x).records where
  directory := rfl
  occupancy := rfl
  cards := rfl
  holds := rfl
  counter := rfl
  outstanding := rfl
  cap := rfl
  merchants := fun k => by
    rw [Draft.putMerchant_records, merchantOf_put]
    split
    · next hk => exact hk ▸ ⟨hstate, hopen⟩
    · exact ⟨rfl, rfl⟩

theorem sameBooks_commit : SameBooks d.records d.commit.records := { SameBooks.refl d.records with }

theorem sameBooks_putEntry (m : Nat) (e : Entry) : SameBooks d.records (d.putEntry m e).records :=
  { SameBooks.refl d.records with }

theorem sameBooks_post (m : Nat) (a : Accum) (x : Nat) : SameBooks d.records (d.post m a x).records :=
  { SameBooks.refl d.records with }

theorem sameBooks_addRetired (x : Int) : SameBooks d.records (d.addRetired x).records :=
  { SameBooks.refl d.records with }

theorem sameBooks_latchRefund (m : Nat) : SameBooks d.records (d.latchRefund m).records :=
  sameBooks_putMerchant d rfl rfl

theorem sameBooks_evalDeficit (m : Nat) : SameBooks d.records (d.evalDeficit m).records := by
  unfold Draft.evalDeficit
  split
  · exact sameBooks_putMerchant d rfl rfl
  · exact .refl _

theorem sameBooks_evalRefund (m : Nat) : SameBooks d.records (d.evalRefund m).records := by
  unfold Draft.evalRefund
  split
  · split
    · exact .refl _
    · split
      · exact .refl _
      · split
        · exact sameBooks_latchRefund d m
        · exact .refl _
  · exact .refl _

theorem sameBooks_evalMerchant (m : Nat) : SameBooks d.records (d.evalMerchant m).records :=
  (sameBooks_evalDeficit d m).trans (sameBooks_evalRefund _ m)

theorem sameBooks_evalFinalised (reason : RetireReason) : SameBooks d.records (d.evalFinalised reason).records := by
  cases reason
  · exact sameBooks_evalMerchant d 0
  · exact .refl _
  · exact .refl _
  · exact .refl _

theorem sameBooks_evalSettled (c : Card) : SameBooks d.records (d.evalSettled c).records := by
  unfold Draft.evalSettled
  split
  · exact .refl _
  · exact sameBooks_evalFinalised d _

theorem sameBooks_cutover : SameBooks d.records d.cutover.records := { SameBooks.refl d.records with }

end Neutral

/-! Value moved onto and off the cards (R96) -/

theorem satPos_of_range {x : Int} (hlow : -140737488355327 ≤ x) (hhigh : x ≤ 140737488355327) : satPos x = x := by
  simp only [satPos, Config.posMax]; omega

/-- The value on the cards is at most 32,768 times 100,000,000 (R14, R31). -/
theorem Agrees.value_le {v : Int} {r : Records} (h : Agrees v r) : cardValue r ≤ 3276800000000 := by
  have stands : ∀ e ∈ r.cards, CardStands r e.1 e.2 := fun e he =>
    h.card _ _ ((tableFind_eq_some_iff h.rising _ _).2 he)
  have hlen : r.cards.length ≤ 32768 := rising_length_le h.rising (fun e he => (stands e he).slot_lt)
  have hsum : cardValue r ≤ r.cards.length * 100000000 := tableSum_le Card.value (fun e he => by
    obtain ⟨-, -, -, -, -, hbound⟩ := (stands e he).state
    exact hbound)
  omega

/-- Outstanding moved by `x` saturates nowhere near the value on the cards. -/
theorem Agrees.addOutstanding {v x w : Int} {d : Draft} (h : Agrees v d.records) (hw : w = v - x)
    (hlow : -1000000000 ≤ w) (hhigh : w ≤ 1000000000) : Agrees w (d.addOutstanding x).records := by
  have hvalue := h.value_le
  have hout := h.outstanding
  have hsat : satPos (d.records.totals.outstanding + x) = d.records.totals.outstanding + x :=
    satPos_of_range (by omega) (by omega)
  have hmoved : (d.addOutstanding x).records.totals.outstanding + w = cardValue d.records := by
    simp only [Draft.addOutstanding_records, hsat]
    omega
  exact {
    rising := h.rising
    card := fun j c hc =>
      have k := h.card j c hc
      ⟨k.state, k.found, k.held, k.openHolds, k.few⟩
    slot := h.slot
    listed := h.listed
    occupancy := h.occupancy
    holds := h.holds
    counts := h.counts
    outstanding := hmoved
    cap := h.cap
    desk := h.desk }

/-! Cards written, placed and removed -/

theorem tableFind_insert_cases {α : Type} {t : Table α} {j k : Nat} {v w : α}
    (h : tableFind (tableInsert t j v) k = some w) : k = j ∧ w = v ∨ k ≠ j ∧ tableFind t k = some w := by
  rw [tableFind_insert] at h
  split at h
  · next hk => exact .inl ⟨hk, (Option.some.inj h).symm⟩
  · next hk => exact .inr ⟨hk, h⟩

/-- A table keeps what it lists when a record is written. -/
theorem tableFind_insert_ne_none {α : Type} {t : Table α} {j k : Nat} {v : α} (h : tableFind t k ≠ none) :
    tableFind (tableInsert t j v) k ≠ none := by
  rw [tableFind_insert]
  split
  · simp
  · exact h

/-- A written card leaves the number of cards. -/
theorem length_insert {α : Type} {t : Table α} {j : Nat} {v w : α} (hr : rising t = true) (h : tableFind t j = some w) :
    (tableInsert t j v).length = t.length := by
  have := tableSum_insert (v := v) (fun _ => 1) hr h
  rw [length_eq_tableSum, length_eq_tableSum t]; omega

/-- A card that stands written with the same serial and holds, as its state gives its fields: outstanding falls short by
what its available rises. -/
theorem Agrees.putCard {v w : Int} {d : Draft} {j : Nat} {c c' : Card} (h : Agrees v d.records)
    (hc : tableFind d.records.cards j = some c) (hstate : CardAsItsState c') (hserial : c'.serial = c.serial)
    (hheld : c'.held = c.held) (hopen : c'.openHolds = c.openHolds) (hw : w = v + c'.available - c.available) :
    Agrees w (d.putCard j c').records := by
  obtain ⟨horder, hids, hlen, hlow, hhigh, hall⟩ := h.holds
  have hsum := tableSum_insert (v := c') Card.value h.rising hc
  have hout := h.outstanding
  have old := h.card j c hc
  exact {
    rising := rising_insert _ _ _ h.rising
    card := fun k x hx => by
      rcases tableFind_insert_cases hx with ⟨rfl, rfl⟩ | ⟨-, hx⟩
      · exact ⟨hstate, hserial ▸ old.found, hheld ▸ old.held, hopen ▸ old.openHolds, hopen ▸ old.few⟩
      · have k := h.card k x hx
        exact ⟨k.state, k.found, k.held, k.openHolds, k.few⟩
    slot := fun k x hx => tableFind_insert_ne_none (h.slot k x hx)
    listed := h.listed
    occupancy := h.occupancy.trans (length_insert h.rising hc).symm
    holds := ⟨horder, hids, hlen, hlow, hhigh, fun x hx =>
      have ⟨h1, h2, h3, h4, h5⟩ := hall x hx
      ⟨h1, h2, h3, tableFind_insert_ne_none h4, h5⟩⟩
    counts := h.counts
    outstanding := by
      rw [cardValue_eq] at hout ⊢
      simp only [Draft.putCard_records, Card.value] at hsum ⊢
      omega
    cap := h.cap
    desk := h.desk }

/-- No hold stands on a slot that has no card. -/
theorem Agrees.holdsOn_nil {v : Int} {r : Records} {j : Nat} (h : Agrees v r) (hj : tableFind r.cards j = none) :
    holdsOn r j = [] := List.eq_nil_iff_forall_not_mem.2 (fun x hx => by
  obtain ⟨hmem, rfl⟩ := mem_holdsOn.1 hx
  obtain ⟨-, -, -, -, -, hall⟩ := h.holds
  obtain ⟨-, -, -, hcard, -⟩ := hall x hmem
  exact hcard hj)

/-- A slot that holds no serial has no card. -/
theorem Agrees.no_card {v : Int} {r : Records} {j : Nat} (h : Agrees v r)
    (hj : slotState r.directory j = .empty ∨ slotState r.directory j = .vacated) : tableFind r.cards j = none := by
  by_contra hsome
  obtain ⟨c, hc⟩ := Option.ne_none_iff_exists'.1 hsome
  rw [(h.card j c hc).placed] at hj
  rcases hj with hj | hj <;> cases hj

/-- A new card placed where its lookup handed a slot back (R19): outstanding falls short by its value. -/
theorem Agrees.placeCard {v w : Int} {d : Draft} {j : Nat} {c : Card} (h : Agrees v d.records)
    (hlookup : lookup d.records.directory c.serial = { slot := none, free := some j }) (hstate : CardAsItsState c)
    (hheld : c.held = 0) (hopen : c.openHolds = 0) (hw : w = v + c.available) : Agrees w (d.placeCard j c).records := by
  obtain ⟨hj, hfree, hfound⟩ := lookup_placed hlookup
  have hnew := h.no_card hfree
  have hnone := h.holdsOn_nil hnew
  obtain ⟨horder, hids, hlen, hlow, hhigh, hall⟩ := h.holds
  have hsum := tableSum_insert_new (v := c) Card.value hnew
  have hcount := tableSum_insert_new (v := c) (fun _ => 1) hnew
  have hout := h.outstanding
  exact {
    rising := rising_insert _ _ _ h.rising
    card := fun k x hx => by
      rcases tableFind_insert_cases hx with ⟨rfl, rfl⟩ | ⟨-, hx⟩
      · have hon : holdsOn (d.placeCard k x).records k = [] := hnone
        exact ⟨hstate, hfound, by rw [hon, hheld]; rfl, by rw [hon, hopen]; rfl, by omega⟩
      · have old := h.card k x hx
        have hne : x.serial ≠ c.serial := fun he => by
          have hf := old.found
          rw [he, hlookup] at hf
          cases hf
        exact ⟨old.state, lookup_placed_other hfree hne old.found, old.held, old.openHolds, old.few⟩
    slot := fun k x hx => by
      rw [Draft.placeCard_records] at hx ⊢
      rw [slotState_put] at hx
      rw [tableFind_insert]
      split at hx
      · next hk => simp [hk]
      · next hk => rw [if_neg hk]; exact h.slot k x hx
    listed := fun k hk => by
      rw [Draft.placeCard_records, slotState_put] at hk
      split at hk
      · next he => exact he ▸ hj
      · exact h.listed k hk
    occupancy := by
      have hocc := h.occupancy
      rw [length_eq_tableSum] at hocc
      rw [Draft.placeCard_records, length_eq_tableSum]
      simp only
      omega
    holds := ⟨horder, hids, hlen, hlow, hhigh, fun x hx =>
      have ⟨h1, h2, h3, h4, h5⟩ := hall x hx
      ⟨h1, h2, h3, tableFind_insert_ne_none h4, h5⟩⟩
    counts := h.counts
    outstanding := by
      rw [cardValue_eq] at hout ⊢
      simp only [Draft.placeCard_records, Card.value] at hsum ⊢
      omega
    cap := h.cap
    desk := h.desk }

/-- A card with nothing on it and no holds removed, its slot vacated (R22). -/
theorem Agrees.purgeCard {v : Int} {d : Draft} {j : Nat} {c : Card} (h : Agrees v d.records)
    (hc : tableFind d.records.cards j = some c) (havailable : c.available = 0) (hheld : c.held = 0)
    (hopen : c.openHolds = 0) : Agrees v (d.purgeCard j).records := by
  have old := h.card j c hc
  have hnone : holdsOn d.records j = [] := List.eq_nil_of_length_eq_zero (old.openHolds.symm.trans hopen)
  obtain ⟨horder, hids, hlen, hlow, hhigh, hall⟩ := h.holds
  have hsum := tableSum_erase Card.value h.rising hc
  have hcount := tableSum_erase (fun _ => 1) h.rising hc
  have hout := h.outstanding
  exact {
    rising := rising_erase _ _ h.rising
    card := fun k x hx => by
      rw [Draft.purgeCard_records, tableFind_erase] at hx
      split at hx
      · cases hx
      · next hk =>
        have other := h.card k x hx
        have hne : x.serial ≠ c.serial := fun he =>
          hk (Option.some.inj (other.found.symm.trans (he ▸ old.found)))
        exact ⟨other.state, lookup_vacate_other old.slot_lt old.placed hne other.found, other.held, other.openHolds,
          other.few⟩
    slot := fun k x hx => by
      obtain ⟨hk, hused⟩ := vacate_used old.slot_lt old.placed hx
      rw [Draft.purgeCard_records, tableFind_erase, if_neg hk]
      exact h.slot k x hused
    listed := fun k hk => by
      rcases vacate_state old.slot_lt old.placed k with ⟨-, hs⟩ | hs | ⟨-, hs⟩
      · exact h.listed k (hs ▸ hk)
      · exact absurd hs hk
      · exact h.listed k hs
    occupancy := by
      have hocc := h.occupancy
      rw [length_eq_tableSum] at hocc
      rw [Draft.purgeCard_records, length_eq_tableSum]
      simp only
      omega
    holds := ⟨horder, hids, hlen, hlow, hhigh, fun x hx => by
      obtain ⟨h1, h2, h3, h4, h5⟩ := hall x hx
      refine ⟨h1, h2, h3, ?_, h5⟩
      have hslot : x.slot ≠ j := fun he => by
        have hmem : x ∈ holdsOn d.records j := mem_holdsOn.2 ⟨hx, he⟩
        rw [hnone] at hmem
        cases hmem
      rw [Draft.purgeCard_records, tableFind_erase, if_neg hslot]
      exact h4⟩
    counts := h.counts
    outstanding := by
      rw [cardValue_eq] at hout ⊢
      simp only [Draft.purgeCard_records, Card.value] at hsum ⊢
      omega
    cap := h.cap
    desk := h.desk }

/-! Merchants and limits -/

/-- A merchant written with its open holds as they were: one with holds, and merchant 0, still trades or is suspended. -/
theorem Agrees.putMerchant {v : Int} {d : Draft} {m : Nat} {x : Merchant} (h : Agrees v d.records)
    (hopen : x.openHolds = (merchantOf d.records m).openHolds)
    (hstate : (x.state = .enrolled ∨ x.state = .suspended) ∨ m ≠ 0 ∧ ∀ g ∈ d.records.holds, g.merchant ≠ m) :
    Agrees v (d.putMerchant m x).records := by
  obtain ⟨horder, hids, hlen, hlow, hhigh, hall⟩ := h.holds
  exact {
    rising := h.rising
    card := fun j c hc =>
      have k := h.card j c hc
      ⟨k.state, k.found, k.held, k.openHolds, k.few⟩
    slot := h.slot
    listed := h.listed
    occupancy := h.occupancy
    holds := ⟨horder, hids, hlen, hlow, hhigh, fun g hg => by
      obtain ⟨h1, h2, h3, h4, h5⟩ := hall g hg
      refine ⟨h1, h2, h3, h4, ?_⟩
      rw [Draft.putMerchant_records, merchantOf_put]
      split
      · next hm =>
        rcases hstate with hs | ⟨-, hs⟩
        · exact hs
        · exact absurd hm (hs g hg)
      · exact h5⟩
    counts := fun k => by
      rw [Draft.putMerchant_records, merchantOf_put]
      split
      · next hk => rw [hopen, ← hk]; exact h.counts k
      · exact h.counts k
    outstanding := h.outstanding
    cap := h.cap
    desk := by
      rw [Draft.putMerchant_records, merchantOf_put]
      split
      · next hm =>
        rcases hstate with hs | ⟨hs, -⟩
        · exact hs
        · exact absurd hm.symm hs
      · exact h.desk }

/-- The limits replaced, with the card cap in its range (R31). -/
theorem Agrees.putLimits {v : Int} {d : Draft} {l : Limits} (h : Agrees v d.records) (hcap : l.value.cap ≤ 100000000) :
    Agrees v (d.putLimits l).records where
  rising := h.rising
  card := fun j c hc =>
    have k := h.card j c hc
    ⟨k.state, k.found, k.held, k.openHolds, k.few⟩
  slot := h.slot
  listed := h.listed
  occupancy := h.occupancy
  holds := h.holds
  counts := h.counts
  outstanding := h.outstanding
  cap := hcap
  desk := h.desk

end Sys2Proof.Machine
end

section
/-! PROOFS. The Hold Table (R52, R54): the order it keeps, the entries it gains and loses, and the id the next hold takes. -/

namespace Sys2Proof.Machine

/-! Entries found, added and removed -/

section Entries

variable {holds : List Hold} {h : Hold}

theorem findHold_eq_none_iff (id : Nat) : findHold holds id = none ↔ ∀ g ∈ holds, g.id ≠ id := by
  simp [findHold, List.find?_eq_none]

theorem findHold_some {id : Nat} (hf : findHold holds id = some h) : h ∈ holds ∧ h.id = id :=
  ⟨List.mem_of_find?_eq_some hf, by simpa using List.find?_some hf⟩

theorem insertHold_perm (h : Hold) (holds : List Hold) : (insertHold h holds).Perm (h :: holds) := by
  induction holds with
  | nil => exact .refl _
  | cons g rest ih =>
    simp only [insertHold]
    split
    · exact .refl _
    · exact (ih.cons g).trans (.swap h g rest)

/-- Deadline order is transitive. -/
theorem holdBefore_trans {a b c : Hold} (hab : holdBefore a b = true) (hbc : holdBefore b c = true) :
    holdBefore a c = true := by
  simp only [holdBefore, decide_eq_true_eq] at *; omega

/-- Of two holds with different ids one stands before the other. -/
theorem holdBefore_of_not {a b : Hold} (hid : a.id ≠ b.id) (h : ¬ holdBefore a b = true) : holdBefore b a = true := by
  simp only [holdBefore, decide_eq_true_eq] at *; omega

/-- An entry with an id of its own is added in deadline order (R52). -/
theorem insertHold_ordered (horder : holds.Pairwise (fun a b => holdBefore a b = true)) (hid : ∀ g ∈ holds, g.id ≠ h.id) :
    (insertHold h holds).Pairwise (fun a b => holdBefore a b = true) := by
  induction holds with
  | nil => exact List.pairwise_singleton _ _
  | cons g rest ih =>
    obtain ⟨hg, hrest⟩ := List.pairwise_cons.1 horder
    simp only [insertHold]
    split
    · next hb =>
      refine List.pairwise_cons.2 ⟨fun x hx => ?_, horder⟩
      rcases List.mem_cons.1 hx with rfl | hx
      · exact hb
      · exact holdBefore_trans hb (hg x hx)
    · next hb =>
      refine List.pairwise_cons.2 ⟨fun x hx => ?_, ih hrest (fun x hx => hid x (List.mem_cons_of_mem _ hx))⟩
      rcases List.mem_cons.1 ((insertHold_perm h rest).mem_iff.1 hx) with rfl | hx
      · exact holdBefore_of_not (Ne.symm (hid g List.mem_cons_self)) hb
      · exact hg x hx

/-- The entry a Hold Table loses (R66). -/
theorem perm_eraseHold (hids : (holds.map Hold.id).Nodup) (hmem : h ∈ holds) :
    holds.Perm (h :: eraseHold holds h.id) := by
  induction holds with
  | nil => cases hmem
  | cons g rest ih =>
    obtain ⟨hnew, hrest⟩ := List.nodup_cons.1 hids
    rcases List.mem_cons.1 hmem with rfl | hmem
    · have hkeep : eraseHold rest h.id = rest := List.filter_eq_self.2 (fun x hx =>
        decide_eq_true (fun he => hnew (List.mem_map.2 ⟨x, hx, he⟩)))
      have herase : eraseHold (h :: rest) h.id = eraseHold rest h.id := by simp [eraseHold]
      rw [herase, hkeep]
    · have hne : g.id ≠ h.id := fun he => hnew (List.mem_map.2 ⟨h, hmem, he.symm⟩)
      have herase : eraseHold (g :: rest) h.id = g :: eraseHold rest h.id := by simp [eraseHold, hne]
      rw [herase]
      exact ((ih hrest hmem).cons g).trans (.swap h g _)

end Entries

/-! The next id (R54) -/

section NextId

variable {holds : List Hold}

theorem nextHoldId_range {id : Nat} (hlow : 1 ≤ id) (hhigh : id ≤ 65535) :
    1 ≤ nextHoldId id ∧ nextHoldId id ≤ 65535 := by
  unfold nextHoldId; split <;> omega

/-- The id reached from an id in `i` steps of the counter. -/
theorem nextHoldId_iterate {id : Nat} (hlow : 1 ≤ id) (hhigh : id ≤ 65535) (i : Nat) :
    nextHoldId^[i] id = (id - 1 + i) % 65535 + 1 := by
  induction i with
  | zero => simp only [Function.iterate_zero, id_eq]; omega
  | succ i ih =>
    rw [Function.iterate_succ_apply', ih]
    unfold nextHoldId
    split <;> omega

/-- The search goes `k` ids on: those before are carried, and it stops early only at one that is not. -/
theorem freeHoldId_steps (n id : Nat) : ∃ k, k ≤ n ∧ freeHoldId holds n id = nextHoldId^[k] id ∧
    (∀ i, i < k → (findHold holds (nextHoldId^[i] id)).isSome = true) ∧
    (k < n → findHold holds (nextHoldId^[k] id) = none) := by
  induction n generalizing id with
  | zero => exact ⟨0, Nat.le_refl _, rfl, fun i hi => absurd hi (Nat.not_lt_zero i), fun h => absurd h (Nat.lt_irrefl 0)⟩
  | succ n ih =>
    by_cases hf : (findHold holds id).isSome = true
    · obtain ⟨k, hk, heq, hbefore, hstop⟩ := ih (nextHoldId id)
      refine ⟨k + 1, Nat.succ_le_succ hk, ?_, fun i hi => ?_, fun h => hstop (Nat.lt_of_succ_lt_succ h)⟩
      · rw [freeHoldId, if_pos hf]; exact heq
      · cases i with
        | zero => exact hf
        | succ i => exact hbefore i (Nat.lt_of_succ_lt_succ hi)
    · refine ⟨0, Nat.zero_le _, by rw [freeHoldId, if_neg hf]; rfl, fun i hi => absurd hi (Nat.not_lt_zero i), fun _ => ?_⟩
      simpa using hf

/-- The next hold takes the first id from the counter on that no entry carries: fewer entries stand than there are ids. -/
theorem allocateHoldId_spec {counter : Nat} (hlow : 1 ≤ counter) (hhigh : counter ≤ 65535) (hlen : holds.length < 65535) :
    ∃ n, allocateHoldId holds counter = nextHoldId^[n] counter ∧
      (∀ i, i < n → (findHold holds (nextHoldId^[i] counter)).isSome = true) ∧
      findHold holds (allocateHoldId holds counter) = none ∧
      1 ≤ allocateHoldId holds counter ∧ allocateHoldId holds counter ≤ 65535 := by
  obtain ⟨k, hk, heq, hbefore, hstop⟩ := freeHoldId_steps (holds := holds) holds.length counter
  have hrange := nextHoldId_iterate hlow hhigh k
  refine ⟨k, heq, hbefore, ?_, by rw [allocateHoldId, heq]; omega, by rw [allocateHoldId, heq]; omega⟩
  rw [allocateHoldId, heq]
  by_cases hlt : k < holds.length
  · exact hstop hlt
  by_contra hsome
  have hcarried : ∀ i, i < k + 1 → nextHoldId^[i] counter ∈ holds.map Hold.id := fun i hi => by
    have hfound : findHold holds (nextHoldId^[i] counter) ≠ none := by
      rcases Nat.lt_or_eq_of_le (Nat.le_of_lt_succ hi) with hi | rfl
      · exact Option.isSome_iff_ne_none.1 (hbefore i hi)
      · exact hsome
    obtain ⟨g, hg⟩ := Option.ne_none_iff_exists'.1 hfound
    obtain ⟨hmem, hid⟩ := findHold_some hg
    exact List.mem_map.2 ⟨g, hmem, hid⟩
  have hdistinct : ((List.range (k + 1)).map (fun i => nextHoldId^[i] counter)).Nodup :=
    List.Nodup.map_on (fun a ha b hb hab => by
      rw [List.mem_range] at ha hb
      rw [nextHoldId_iterate hlow hhigh, nextHoldId_iterate hlow hhigh] at hab
      omega) List.nodup_range
  have hsub : (List.range (k + 1)).map (fun i => nextHoldId^[i] counter) ⊆ holds.map Hold.id := fun x hx => by
    obtain ⟨i, hi, rfl⟩ := List.mem_map.1 hx
    exact hcarried i (List.mem_range.1 hi)
  have hcount := (hdistinct.subperm hsub).length_le
  simp only [List.length_map, List.length_range] at hcount
  omega

end NextId

/-! Sums over the entries of a slot and of a merchant -/

section Gains

variable {r r' : Records} {h : Hold}

/-- What a slot's entries sum to after the table gained an entry. -/
theorem held_gain (hp : r'.holds.Perm (h :: r.holds)) (j : Nat) :
    ((holdsOn r' j).map Hold.amount).sum = ((holdsOn r j).map Hold.amount).sum + if h.slot = j then h.amount else 0 := by
  have hsum := ((hp.filter (fun g => decide (g.slot = j))).map Hold.amount).sum_eq
  rw [holdsOn, holdsOn, hsum, List.filter_cons]
  by_cases hj : h.slot = j
  · simp [hj, Nat.add_comm]
  · simp [hj]

theorem holdsOn_gain (hp : r'.holds.Perm (h :: r.holds)) (j : Nat) :
    (holdsOn r' j).length = (holdsOn r j).length + if h.slot = j then 1 else 0 := by
  rw [holdsOn, holdsOn, (hp.filter (fun g => decide (g.slot = j))).length_eq, List.filter_cons]
  by_cases hj : h.slot = j
  · simp [hj]
  · simp [hj]

theorem holdsOf_gain (hp : r'.holds.Perm (h :: r.holds)) (m : Nat) :
    (holdsOf r' m).length = (holdsOf r m).length + if h.merchant = m then 1 else 0 := by
  rw [holdsOf, holdsOf, (hp.filter (fun g => decide (g.merchant = m))).length_eq, List.filter_cons]
  by_cases hm : h.merchant = m
  · simp [hm]
  · simp [hm]

end Gains

/-! Holds placed and ended on a card (R53) -/

/-- A hold stands on a card that is not RETIRED, and its amount is part of the card's held. -/
theorem Agrees.hold_card {v : Int} {r : Records} {h : Hold} (ha : Agrees v r) (hmem : h ∈ r.holds) {c : Card}
    (hc : tableFind r.cards h.slot = some c) :
    h.amount ≤ c.held ∧ 1 ≤ c.openHolds ∧ (c.openHolds = 1 → c.held = h.amount) := by
  have stands := ha.card _ _ hc
  have hon : h ∈ holdsOn r h.slot := mem_holdsOn.2 ⟨hmem, rfl⟩
  refine ⟨?_, ?_, fun hone => ?_⟩
  · rw [stands.held]; exact List.le_sum_of_mem (List.mem_map_of_mem hon)
  · rw [stands.openHolds]; exact List.length_pos_of_mem hon
  · obtain ⟨g, hg⟩ := List.length_eq_one_iff.1 (stands.openHolds.symm.trans hone)
    rw [hg] at hon
    rw [stands.held, hg, List.mem_singleton.1 hon]
    simp

/-- A hold placed on a card that stands: its amount moves from available to held (R59). -/
theorem Agrees.newHold {v : Int} {d : Draft} {h : Hold} {c c' : Card} (ha : Agrees v d.records)
    (hc : tableFind d.records.cards h.slot = some c) (hid : findHold d.records.holds h.id = none) (hlow : 1 ≤ h.id)
    (hhigh : h.id ≤ 65535) (hroom : d.records.holds.length < 4096) (hfew : c.openHolds < 4) (hamount : 1 ≤ h.amount)
    (htrades : (merchantOf d.records h.merchant).state = .enrolled ∨ (merchantOf d.records h.merchant).state = .suspended)
    (hstate : CardAsItsState c') (hserial : c'.serial = c.serial) (hheld : c'.held = c.held + h.amount)
    (hopen : c'.openHolds = c.openHolds + 1) (havailable : c'.available + h.amount = c.available) :
    Agrees v ((d.addHold h).putCard h.slot c').records := by
  obtain ⟨horder, hids, hlen, hclow, hchigh, hall⟩ := ha.holds
  have hfresh := (findHold_eq_none_iff h.id).1 hid
  have hp : ((d.addHold h).putCard h.slot c').records.holds.Perm (h :: d.records.holds) := insertHold_perm _ _
  have old := ha.card _ _ hc
  have hsum := tableSum_insert (v := c') Card.value ha.rising hc
  have hout := ha.outstanding
  obtain ⟨hnlow, hnhigh⟩ := nextHoldId_range hlow hhigh
  have hmstate : ∀ m, (merchantOf ((d.addHold h).putCard h.slot c').records m).state = (merchantOf d.records m).state :=
    fun m => by
      rw [Draft.putCard_records, merchantOf, Draft.addHold_records]
      simp only [tableGet_put]
      split
      · next hm => rw [hm]
      · rfl
  exact {
    rising := rising_insert _ _ _ ha.rising
    card := fun k x hx => by
      rcases tableFind_insert_cases hx with ⟨rfl, rfl⟩ | ⟨hk, hx⟩
      · refine ⟨hstate, hserial ▸ old.found, ?_, ?_, by omega⟩
        · rw [held_gain hp, if_pos rfl, hheld, old.held]
        · rw [holdsOn_gain hp, if_pos rfl, hopen, old.openHolds]
      · have other := ha.card k x hx
        refine ⟨other.state, other.found, ?_, ?_, other.few⟩
        · rw [held_gain hp, if_neg (Ne.symm hk)]; exact other.held
        · rw [holdsOn_gain hp, if_neg (Ne.symm hk)]; exact other.openHolds
    slot := fun k x hx => tableFind_insert_ne_none (ha.slot k x hx)
    listed := ha.listed
    occupancy := ha.occupancy.trans (length_insert ha.rising hc).symm
    holds := by
      refine ⟨insertHold_ordered horder hfresh, ?_, ?_, hnlow, hnhigh, fun x hx => ?_⟩
      · rw [(hp.map Hold.id).nodup_iff]
        exact List.nodup_cons.2 ⟨fun hm => by
          obtain ⟨g, hg, he⟩ := List.mem_map.1 hm
          exact hfresh g hg he, hids⟩
      · rw [hp.length_eq, List.length_cons]; omega
      · rw [hmstate]
        rcases List.mem_cons.1 (hp.mem_iff.1 hx) with rfl | hx
        · exact ⟨hlow, hhigh, hamount, by rw [Draft.putCard_records, tableFind_insert_self]; simp, htrades⟩
        · obtain ⟨h1, h2, h3, h4, h5⟩ := hall x hx
          exact ⟨h1, h2, h3, tableFind_insert_ne_none h4, h5⟩
    counts := fun m => by
      rw [holdsOf_gain hp, ← ha.counts, Draft.putCard_records, merchantOf, Draft.addHold_records]
      simp only [tableGet_put]
      by_cases hm : m = h.merchant
      · rw [if_pos hm, if_pos hm.symm, hm]
      · rw [if_neg hm, if_neg (Ne.symm hm)]; rfl
    outstanding := by
      rw [cardValue_eq] at hout ⊢
      simp only [Draft.putCard_records, Draft.addHold_records, Card.value] at hsum ⊢
      omega
    cap := ha.cap
    desk := by rw [hmstate]; exact ha.desk }

/-- A hold of a card ended, the card written without it: outstanding falls short by what the card loses (R53, R66). -/
theorem Agrees.endHold {v w : Int} {d : Draft} {h : Hold} {c c' : Card} (ha : Agrees v d.records)
    (hmem : h ∈ d.records.holds) (hc : tableFind d.records.cards h.slot = some c) (hstate : CardAsItsState c') (hserial : c'.serial = c.serial)
    (hheld : c'.held + h.amount = c.held) (hopen : c'.openHolds + 1 = c.openHolds)
    (hw : w = v + c'.available - c.available - h.amount) : Agrees w ((d.removeHold h).putCard h.slot c').records := by
  obtain ⟨horder, hids, hlen, hclow, hchigh, hall⟩ := ha.holds
  have hp : d.records.holds.Perm (h :: ((d.removeHold h).putCard h.slot c').records.holds) := perm_eraseHold hids hmem
  have hsub : ∀ g ∈ ((d.removeHold h).putCard h.slot c').records.holds, g ∈ d.records.holds :=
    fun g hg => List.mem_of_mem_filter hg
  have old := ha.card _ _ hc
  have hsum := tableSum_insert (v := c') Card.value ha.rising hc
  have hout := ha.outstanding
  have hmstate : ∀ m, (merchantOf ((d.removeHold h).putCard h.slot c').records m).state =
      (merchantOf d.records m).state := fun m => by
    rw [Draft.putCard_records, merchantOf, Draft.removeHold_records]
    simp only [tableGet_put]
    split
    · next hm => rw [hm]
    · rfl
  exact {
    rising := rising_insert _ _ _ ha.rising
    card := fun k x hx => by
      rcases tableFind_insert_cases hx with ⟨rfl, rfl⟩ | ⟨hk, hx⟩
      · have hsums := held_gain hp h.slot
        have hcounts := holdsOn_gain hp h.slot
        rw [if_pos rfl, ← old.held] at hsums
        rw [if_pos rfl, ← old.openHolds] at hcounts
        have hfew := old.few
        exact ⟨hstate, hserial ▸ old.found, by omega, by omega, by omega⟩
      · have other := ha.card k x hx
        have hsums := held_gain hp k
        have hcounts := holdsOn_gain hp k
        rw [if_neg (Ne.symm hk), ← other.held] at hsums
        rw [if_neg (Ne.symm hk), ← other.openHolds] at hcounts
        exact ⟨other.state, other.found, hsums, hcounts, other.few⟩
    slot := fun k x hx => tableFind_insert_ne_none (ha.slot k x hx)
    listed := ha.listed
    occupancy := ha.occupancy.trans (length_insert ha.rising hc).symm
    holds := by
      refine ⟨horder.filter _, ?_, ?_, hclow, hchigh, fun x hx => ?_⟩
      · exact ((List.nodup_cons.1 ((hp.map Hold.id).nodup_iff.1 hids))).2
      · have := hp.length_eq
        rw [List.length_cons] at this
        omega
      · rw [hmstate]
        obtain ⟨h1, h2, h3, h4, h5⟩ := hall x (hsub x hx)
        exact ⟨h1, h2, h3, tableFind_insert_ne_none h4, h5⟩
    counts := fun m => by
      have hcounts := holdsOf_gain hp m
      have hm := ha.counts m
      rw [Draft.putCard_records, merchantOf, Draft.removeHold_records]
      simp only [tableGet_put]
      by_cases he : m = h.merchant
      · subst he
        rw [if_pos rfl] at hcounts ⊢
        exact Nat.sub_eq_of_eq_add (hm.trans hcounts)
      · rw [if_neg (Ne.symm he)] at hcounts
        rw [if_neg he]
        exact hm.trans hcounts
    outstanding := by
      rw [cardValue_eq] at hout ⊢
      simp only [Draft.putCard_records, Draft.removeHold_records, Card.value] at hsum ⊢
      omega
    cap := ha.cap
    desk := by rw [hmstate]; exact ha.desk }

end Sys2Proof.Machine
end

section
/-! PROOFS. The accounts under the postings that create, credit, spend from, lock, retire, transfer and purge cards, and
those that place and end holds (R29, R31, R53, R96). -/

namespace Sys2Proof.Machine

/-! Cards as their states give their fields (R29) -/

section CardStates

variable {c : Card}

/-- What an ACTIVE or LOCKED card's state says. -/
theorem cardAsItsState_live (h : c.state = .active ∨ c.state = .locked) : CardAsItsState c ↔
    ((c.locks.host = true ∨ c.locks.velocity = true) ↔ c.state = .locked) ∧ c.retireReason = none ∧ c.retiredAt = none ∧
    c.available + c.held ≤ 100000000 := by
  rcases h with h | h <;> simp [CardAsItsState, h]

theorem live_of_lifeRefusal {s : CardState} (h : lifeRefusal s = none) : s = .active ∨ s = .locked := by
  cases s
  · exact .inl rfl
  · exact .inr rfl
  · cases h
  · cases h

theorem active_of_stateRefusal {s : CardState} (h : stateRefusal s = none) : s = .active := by
  cases s
  · rfl
  · cases h
  · cases h
  · cases h

theorem cardAsItsState_issued {a : Nat} (h : a ≤ 100000000) (x m v now : Nat) :
    CardAsItsState (issuedCard x m a v now) :=
  (cardAsItsState_live (.inl rfl)).2 ⟨by simp [issuedCard], rfl, rfl, h⟩

/-- Value and time of a live card moved within the cap. -/
theorem cardAsItsState_valued (hlive : c.state = .active ∨ c.state = .locked) (h : CardAsItsState c) {a b n : Nat}
    (hbound : a + b ≤ 100000000) (now : Nat) :
    CardAsItsState { c with available := a, held := b, openHolds := n, lastPostingAt := now } := by
  obtain ⟨hlocks, hreason, hretired, -⟩ := (cardAsItsState_live hlive).1 h
  refine (cardAsItsState_live ?_).2 ⟨hlocks, hreason, hretired, hbound⟩
  exact hlive

theorem cardAsItsState_hostLocked (hlive : c.state = .active ∨ c.state = .locked) (h : CardAsItsState c) (now : Nat) :
    CardAsItsState (hostLocked now c) := by
  obtain ⟨-, hreason, hretired, hbound⟩ := (cardAsItsState_live hlive).1 h
  exact (cardAsItsState_live (.inr rfl)).2 ⟨by simp [hostLocked], hreason, hretired, hbound⟩

theorem cardAsItsState_hostUnlocked (hlive : c.state = .active ∨ c.state = .locked) (h : CardAsItsState c) (now : Nat) :
    CardAsItsState (hostUnlocked now c) := by
  obtain ⟨-, hreason, hretired, hbound⟩ := (cardAsItsState_live hlive).1 h
  have hstate : (hostUnlocked now c).state = .active ∨ (hostUnlocked now c).state = .locked := by
    unfold hostUnlocked; cases c.locks.velocity <;> simp
  refine (cardAsItsState_live hstate).2 ⟨?_, hreason, hretired, hbound⟩
  unfold hostUnlocked; cases c.locks.velocity <;> simp

theorem cardAsItsState_retired (hheld : c.held = 0) (hopen : c.openHolds = 0) (now : Nat) (reason : RetireReason) :
    CardAsItsState (retiredCard now reason c) := by
  simp [CardAsItsState, retiredCard, hheld, hopen]

theorem cardAsItsState_closing (hlive : c.state = .active ∨ c.state = .locked) (h : CardAsItsState c)
    (hopen : c.openHolds ≠ 0) {reason : RetireReason} (hreason : reason ≠ .transferred) (now : Nat) :
    CardAsItsState (closingCard now reason c) := by
  obtain ⟨-, -, hretired, hbound⟩ := (cardAsItsState_live hlive).1 h
  simp [CardAsItsState, closingCard, hretired, hbound, hreason, Nat.pos_of_ne_zero hopen]

/-- A card whose VELOCITY is cleared: its cause goes, and with it a lock that had no other (R161). -/
theorem cardAsItsState_cleared (h : CardAsItsState c) (now : Nat) : CardAsItsState (clearedCard now c) := by
  cases hs : c.state with
  | active => simp_all [CardAsItsState, clearedCard, unlockedState]
  | locked => cases hh : c.locks.host <;> simp_all [CardAsItsState, clearedCard, unlockedState]
  | closing => simp_all [CardAsItsState, clearedCard, unlockedState]
  | retired => simp_all [CardAsItsState, clearedCard, unlockedState]

/-! An approved spend -/

/-- What a spend's count and its VELOCITY leave of a card: all but its state, its locks and its velocity fields. -/
structure SpendKeeps (c c' : Card) : Prop where
  serial : c'.serial = c.serial
  available : c'.available = c.available
  held : c'.held = c.held
  openHolds : c'.openHolds = c.openHolds
  retireReason : c'.retireReason = c.retireReason
  retiredAt : c'.retiredAt = c.retiredAt

theorem countSpend_keeps (l : MonitorLimits) (now : Nat) (c : Card) : SpendKeeps c (countSpend l now c) := by
  unfold countSpend; split <;> exact ⟨rfl, rfl, rfl, rfl, rfl, rfl⟩

theorem latchVelocity_keeps (operate : Bool) (c : Card) : SpendKeeps c (latchVelocity operate c) := by
  unfold latchVelocity; split <;> exact ⟨rfl, rfl, rfl, rfl, rfl, rfl⟩

theorem spendCard_keeps (l : Limits) (now : Nat) (c : Card) : SpendKeeps c (spendCard l now c) := by
  have hcount := countSpend_keeps l.monitor now c
  unfold spendCard
  simp only
  split
  · have hlatch := latchVelocity_keeps (inSet l.device.operate .velocity) (countSpend l.monitor now c)
    exact ⟨hlatch.serial.trans hcount.serial, hlatch.available.trans hcount.available, hlatch.held.trans hcount.held,
      hlatch.openHolds.trans hcount.openHolds, hlatch.retireReason.trans hcount.retireReason,
      hlatch.retiredAt.trans hcount.retiredAt⟩
  · exact hcount

/-- A spend leaves the state and locks of an ACTIVE card, or locks it with VELOCITY among its causes (R75, R155). -/
theorem spendCard_locks (l : Limits) (now : Nat) (hactive : c.state = .active) :
    (spendCard l now c).state = c.state ∧ (spendCard l now c).locks = c.locks ∨
    (spendCard l now c).state = .locked ∧ (spendCard l now c).locks.velocity = true := by
  have hcount : (countSpend l.monitor now c).state = c.state ∧ (countSpend l.monitor now c).locks = c.locks := by
    unfold countSpend; split <;> exact ⟨rfl, rfl⟩
  unfold spendCard latchVelocity
  simp only
  split
  · split
    · exact .inr ⟨by simp only [hcount.1, hactive], rfl⟩
    · exact .inl hcount
  · exact .inl hcount

theorem cardAsItsState_spend (hactive : c.state = .active) (h : CardAsItsState c) (l : Limits) (now : Nat) :
    CardAsItsState (spendCard l now c) := by
  obtain ⟨hlocks, hreason, hretired, hbound⟩ := (cardAsItsState_live (.inl hactive)).1 h
  have kept := spendCard_keeps l now c
  have hreason' := kept.retireReason.trans hreason
  have hretired' := kept.retiredAt.trans hretired
  have hbound' : (spendCard l now c).available + (spendCard l now c).held ≤ 100000000 := by
    rw [kept.available, kept.held]; exact hbound
  rcases spendCard_locks l now hactive with ⟨hs, hl⟩ | ⟨hs, hl⟩
  · refine (cardAsItsState_live (.inl (hs.trans hactive))).2 ⟨?_, hreason', hretired', hbound'⟩
    rw [hs, hl]; exact hlocks
  · exact (cardAsItsState_live (.inr hs)).2 ⟨⟨fun _ => hs, fun _ => .inr hl⟩, hreason', hretired', hbound'⟩

/-! A card one of whose holds has ended -/

/-- A card after one of its holds has ended agrees with its state: a CLOSING card's last hold retires it (R42). -/
theorem cardAsItsState_settled {h : Hold} {now back drawn : Nat} (hc : CardAsItsState c)
    (hopen : 1 ≤ c.openHolds) (hlast : c.openHolds = 1 → c.held = h.amount)
    (hbound : c.available + back - drawn + (c.held - h.amount) ≤ 100000000) :
    CardAsItsState (settledCard now (endedCard now c h back drawn)) := by
  obtain ⟨hlocks, hreason, hclosing, hretiredAt, hretired, -⟩ := hc
  unfold settledCard
  split
  · next hnone =>
    refine ⟨hlocks, hreason, fun hs => ⟨(hclosing hs).1, ?_⟩, hretiredAt, fun hs => ?_, hbound⟩
    · by_contra hzero
      have hfinal : finalReason (endedCard now c h back drawn) = c.retireReason :=
        if_pos ⟨hs, Nat.eq_zero_of_not_pos hzero⟩
      exact (hreason.2 (.inl hs)) (hfinal.symm.trans hnone)
    · obtain ⟨-, -, hzero⟩ := hretired hs
      omega
  · next reason hsome =>
    unfold finalReason at hsome
    split at hsome
    · next hf =>
      have hone : c.openHolds = 1 := by
        have := hf.2
        simp only [endedCard] at this
        omega
      exact cardAsItsState_retired (by simp only [endedCard]; rw [hlast hone]; omega) hf.2 now reason
    · cases hsome

end CardStates

/-! Value that leaves the cards -/

/-- Value leaves outstanding for a retirement: into merchant 0's K, or into retired value (R41). -/
def Draft.moveOut (d : Draft) (x : Nat) (reason : RetireReason) : Draft :=
  match reason with
  | .cashOut => (d.post 0 .k x).addOutstanding (-(x : Int))
  | .closed => (d.addRetired x).addOutstanding (-(x : Int))
  | .expired => (d.addRetired x).addOutstanding (-(x : Int))
  | .transferred => d

theorem finalise_eq (d : Draft) (j : Nat) (c : Card) (reason : RetireReason) :
    d.finalise j c reason = (d.putCard j (retiredCard d.now reason c)).moveOut c.available reason := by
  cases reason <;> rfl

/-- What leaves outstanding when a card one of whose holds has ended is settled (R42). -/
def Draft.moveSettled (d : Draft) (c : Card) : Draft :=
  match finalReason c with
  | none => d
  | some reason => d.moveOut c.available reason

theorem settleCard_eq (d : Draft) (j : Nat) (c : Card) :
    d.settleCard j c = (d.putCard j (settledCard d.now c)).moveSettled c := by
  unfold Draft.settleCard Draft.moveSettled settledCard
  cases finalReason c with
  | none => rfl
  | some reason => exact finalise_eq d j c reason

/-- Value taken into a merchant's R and a card written are independent. -/
theorem takeValue_putCard (d : Draft) (m x j : Nat) (c : Card) :
    (d.takeValue m x).putCard j c = (d.putCard j c).takeValue m x := by
  simp only [Draft.takeValue, Draft.post, Draft.putEntry, Draft.markSaturated, Draft.addOutstanding, Draft.putCard,
    Draft.mapRecords, openEntry]

section Moves

variable {d : Draft} {v w : Int} {x : Nat}

theorem Agrees.takeValue (h : Agrees v d.records) (m : Nat) (hw : w = v + x) (hlow : -1000000000 ≤ w)
    (hhigh : w ≤ 1000000000) : Agrees w (d.takeValue m x).records :=
  (h.same (sameBooks_post d m .r x)).addOutstanding (by omega) hlow hhigh

theorem Agrees.moveOut {reason : RetireReason} (h : Agrees v d.records) (hv : v = -x) (hreason : reason ≠ .transferred) :
    Agrees 0 (d.moveOut x reason).records := by
  cases reason with
  | cashOut => exact (h.same (sameBooks_post d 0 .k x)).addOutstanding (by omega) (by omega) (by omega)
  | closed => exact (h.same (sameBooks_addRetired d x)).addOutstanding (by omega) (by omega) (by omega)
  | expired => exact (h.same (sameBooks_addRetired d x)).addOutstanding (by omega) (by omega) (by omega)
  | transferred => exact absurd rfl hreason

end Moves

/-! The checks a posting passed -/

section Checks

variable {d : Draft} {serial j : Nat} {c : Card}

theorem cardOf_some {r : Records} (h : cardOf r serial = some (j, c)) :
    tableFind r.cards j = some c ∧ (lookup r.directory serial).slot = some j := by
  unfold cardOf at h
  split at h
  · cases h
  · next k hk =>
    obtain ⟨c', hc, he⟩ := Option.map_eq_some_iff.1 h
    obtain ⟨rfl, rfl⟩ := Prod.mk.inj he
    exact ⟨hc, hk⟩

/-- The record a serial names is the card of that serial. -/
theorem Agrees.serial_eq {v : Int} {r : Records} (ha : Agrees v r) (h : cardOf r serial = some (j, c)) :
    c.serial = serial := by
  obtain ⟨hc, hslot⟩ := cardOf_some h
  have hplaced := (ha.card j c hc).placed
  rw [lookup_slot_used hslot] at hplaced
  exact (DirSlot.used.inj hplaced).symm

/-- A serial that names no card is in no slot a lookup finds. -/
theorem Agrees.lookup_none {v : Int} {r : Records} (ha : Agrees v r) (h : cardOf r serial = none) :
    (lookup r.directory serial).slot = none := by
  unfold cardOf at h
  split at h
  · assumption
  · next k hk => exact absurd (Option.map_eq_none_iff.1 h) (ha.slot k serial (lookup_slot_used hk))

theorem usableCard_ok (h : usableCard d serial = .ok (j, c)) :
    tableFind d.records.cards j = some c ∧ c.state = .active := by
  unfold usableCard at h
  split at h
  · cases h
  · next k x hk =>
    split at h
    · cases h
    · next hstate =>
      split at h
      · cases h
      · obtain ⟨rfl, rfl⟩ := Prod.mk.inj (Except.ok.inj h)
        exact ⟨(cardOf_some hk).1, active_of_stateRefusal hstate⟩

theorem enrolled_of_tradingRefusal {x : Merchant} (h : tradingRefusal x = none) : x.state = .enrolled := by
  unfold tradingRefusal at h
  split at h
  · cases h
  · cases h
  · cases h
  · assumption

theorem spendChecks_ok {m : Nat} (h : spendChecks d serial m = .ok (j, c)) :
    tableFind d.records.cards j = some c ∧ c.state = .active ∧ (merchantOf d.records m).state = .enrolled := by
  unfold spendChecks at h
  split at h
  · cases h
  · next jc hjc =>
    split at h
    · cases h
    · next htrades =>
      obtain rfl := Except.ok.inj h
      obtain ⟨hc, hactive⟩ := usableCard_ok hjc
      exact ⟨hc, hactive, enrolled_of_tradingRefusal htrades⟩

/-- The approved part is within the available value and the amount, and not 0 unless the amount is. -/
theorem approve_some {a x y : Nat} {p : Bool} (h : approve a x p = some y) : y ≤ a ∧ (1 ≤ x → 1 ≤ y) := by
  unfold approve at h
  split at h
  · obtain rfl := Option.some.inj h; exact ⟨by assumption, id⟩
  · split at h
    · next hp =>
      obtain rfl := Option.some.inj h
      simp only [Bool.and_eq_true, decide_eq_true_eq] at hp
      exact ⟨Nat.le_refl _, fun _ => hp.1⟩
    · cases h

/-- A credit the cap allows stays within the range of the cap (R31). -/
theorem Agrees.within_cap {v : Int} {r : Records} {a x : Nat} (ha : Agrees v r) (h : ¬ overCap r.limits a x = true) :
    a + x ≤ 100000000 := by
  have := ha.cap
  simp only [overCap, decide_eq_true_eq] at h
  omega

end Checks

/-! Card postings -/

section CardPostings

variable {d : Draft} (ha : Agrees 0 d.records)
include ha

theorem agrees_postCardIssue (x m a v : Nat) : Agrees 0 (postCardIssue x m a v d).1.records := by
  unfold postCardIssue
  split
  · exact ha
  · split
    · exact ha
    · next hcap =>
      have hbound := ha.within_cap hcap
      simp only
      split
      · exact ha
      · next hslot =>
        split
        · exact ha
        · next j hfree =>
          have hfound : lookup d.records.directory x = { slot := none, free := some j } := by rw [← hslot, ← hfree]
          have hplaced : Agrees a (d.placeCard j (issuedCard x m a v d.now)).records :=
            ha.placeCard hfound (cardAsItsState_issued (by omega) _ _ _ _) rfl rfl (by simp [issuedCard])
          exact ((hplaced.same (sameBooks_post _ m .s a)).addOutstanding (w := 0) (by omega) (by omega) (by omega)).same
            ((sameBooks_evalMerchant _ m).trans (sameBooks_commit _))

/-- An approved credit: available, an accumulator and outstanding rise by the same amount (R35, R73). -/
theorem agrees_creditChanges {j : Nat} {c : Card} (hc : tableFind d.records.cards j = some c) (hactive : c.state = .active)
    (m : Nat) (a : Accum) {x : Nat} (hbound : c.available + c.held + x ≤ 100000000) :
    Agrees 0 (creditChanges d j c m a x).records := by
  have hstate := cardAsItsState_valued (a := c.available + x) (b := c.held) (n := c.openHolds) (.inl hactive)
    (ha.card j c hc).state (by omega) d.now
  have hput := ha.putCard (w := x) hc hstate rfl rfl rfl (by simp only; omega)
  exact ((hput.same (sameBooks_post _ m a x)).addOutstanding (w := 0) (by omega) (by omega) (by omega)).same
    ((sameBooks_evalMerchant _ m).trans (sameBooks_commit _))

theorem agrees_postCardReload (x m a : Nat) : Agrees 0 (postCardReload x m a d).1.records := by
  unfold postCardReload
  split
  · exact ha
  · next j c hok =>
    obtain ⟨hc, hactive⟩ := usableCard_ok hok
    split
    · exact ha
    · split
      · exact ha
      · next hcap => exact agrees_creditChanges ha hc hactive m .s (ha.within_cap hcap)

theorem agrees_postRefund (x m a : Nat) : Agrees 0 (postRefund x m a d).1.records := by
  unfold postRefund
  split
  · exact ha
  · next j c hok =>
    obtain ⟨hc, hactive⟩ := usableCard_ok hok
    split
    · exact ha
    · split
      · exact ha
      · next hcap => exact agrees_creditChanges ha hc hactive m .f (ha.within_cap hcap)

/-- A card written with its value and holds as they were. -/
theorem agrees_rewrittenCard {j : Nat} {c c' : Card} (hc : tableFind d.records.cards j = some c)
    (hstate : CardAsItsState c') (hserial : c'.serial = c.serial) (havailable : c'.available = c.available)
    (hheld : c'.held = c.held) (hopen : c'.openHolds = c.openHolds) : Agrees 0 (d.putCard j c').commit.records :=
  (ha.putCard hc hstate hserial hheld hopen (w := 0) (by omega)).same (sameBooks_commit _)

theorem agrees_postCardLock (x : Nat) : Agrees 0 (postCardLock x d).1.records := by
  unfold postCardLock
  split
  · exact ha
  · next j c hcard =>
    have hc := (cardOf_some hcard).1
    split
    · exact ha
    · next hlife =>
      split
      · exact ha
      · exact agrees_rewrittenCard ha hc
          (cardAsItsState_hostLocked (live_of_lifeRefusal hlife) (ha.card j c hc).state d.now) rfl rfl rfl rfl

theorem agrees_postCardUnlock (x : Nat) : Agrees 0 (postCardUnlock x d).1.records := by
  unfold postCardUnlock
  split
  · exact ha
  · next j c hcard =>
    have hc := (cardOf_some hcard).1
    split
    · exact ha
    · next hlife =>
      split
      · exact ha
      · exact agrees_rewrittenCard ha hc
          (cardAsItsState_hostUnlocked (live_of_lifeRefusal hlife) (ha.card j c hc).state d.now) rfl rfl rfl rfl

theorem agrees_postClearCard (x : Nat) : Agrees 0 (postClearCard x d).1.records := by
  unfold postClearCard
  split
  · exact ha
  · next j c hcard =>
    have hc := (cardOf_some hcard).1
    simp only
    split
    · exact agrees_rewrittenCard ha hc (cardAsItsState_cleared (ha.card j c hc).state d.now) rfl rfl rfl rfl
    · exact ha

omit ha in
/-- A card with no open holds has no value held. -/
theorem CardStands.held_zero {r : Records} {j : Nat} {c : Card} (h : CardStands r j c) (hopen : c.openHolds = 0) :
    c.held = 0 := by
  rw [h.held, List.eq_nil_of_length_eq_zero (h.openHolds.symm.trans hopen)]
  rfl

theorem agrees_postCardRetire (x : Nat) {reason : RetireReason} (hreason : reason ≠ .transferred) :
    Agrees 0 (postCardRetire x reason d).1.records := by
  unfold postCardRetire
  split
  · exact ha
  · next j c hcard =>
    have hc := (cardOf_some hcard).1
    have stands := ha.card j c hc
    split
    · exact ha
    · next hlife =>
      split
      · next hopen =>
        have hstate := cardAsItsState_retired (stands.held_zero hopen) hopen d.now reason
        have hput := ha.putCard (w := -c.available) hc hstate rfl rfl rfl (by simp only [retiredCard]; omega)
        have hmoved : Agrees 0 (d.finalise j c reason).records := by
          rw [finalise_eq]; exact hput.moveOut rfl hreason
        exact hmoved.same ((sameBooks_evalFinalised _ reason).trans (sameBooks_commit _))
      · next hopen =>
        have hstate := cardAsItsState_closing (live_of_lifeRefusal hlife) stands.state hopen hreason d.now
        exact agrees_rewrittenCard ha hc hstate rfl rfl rfl rfl

theorem agrees_postCardPurge (x : Nat) : Agrees 0 (postCardPurge x d).1.records := by
  unfold postCardPurge
  split
  · exact ha
  · next j c hcard =>
    have hc := (cardOf_some hcard).1
    split
    · next hretired =>
      obtain ⟨-, -, -, -, hzero, -⟩ := (ha.card j c hc).state
      obtain ⟨havailable, hheld, hopen⟩ := hzero hretired
      exact (ha.purgeCard hc havailable hheld hopen).same (sameBooks_commit _)
    · exact ha

/-- CARD_TRANSFER into a card it creates: the target takes the source's value, which the source's retirement leaves. -/
theorem agrees_transferToNew {k : Nat} {source : Card} {target : Nat} {free : Option Nat}
    (hc : tableFind d.records.cards k = some source) (hopen : source.openHolds = 0)
    (hlookup : lookup d.records.directory target = { slot := none, free := free }) :
    Agrees 0 (transferToNew k source target free d).1.records := by
  unfold transferToNew
  split
  · exact ha
  · next j =>
    split
    · exact ha
    · next hcap =>
      have stands := ha.card k source hc
      have hbound := ha.within_cap hcap
      have hstate : CardAsItsState (transferTarget target source d.now) :=
        (cardAsItsState_live (.inl rfl)).2 ⟨by simp [transferTarget, issuedCard], rfl, rfl, by
          simp only [transferTarget, issuedCard]; omega⟩
      have hplaced : Agrees source.available (d.placeCard j (transferTarget target source d.now)).records :=
        ha.placeCard hlookup hstate rfl rfl (by simp [transferTarget, issuedCard])
      have hne : k ≠ j := fun he => by
        have hnone := ha.no_card (lookup_placed hlookup).2.1
        rw [← he, hc] at hnone
        cases hnone
      have hkept : tableFind (d.placeCard j (transferTarget target source d.now)).records.cards k = some source := by
        rw [Draft.placeCard_records, tableFind_insert_ne _ _ hne]; exact hc
      have hretired := cardAsItsState_retired (stands.held_zero hopen) hopen d.now .transferred
      exact (hplaced.putCard (w := 0) hkept hretired rfl rfl rfl (by simp only [retiredCard]; omega)).same
        (sameBooks_commit _)

/-- CARD_TRANSFER into another card that stands. -/
theorem agrees_transferToCard {k y : Nat} {source target : Card} (hc : tableFind d.records.cards k = some source)
    (ht : tableFind d.records.cards y = some target) (hne : k ≠ y) (hopen : source.openHolds = 0) :
    Agrees 0 (transferToCard k source y target d).1.records := by
  unfold transferToCard
  split
  · exact ha
  · next hactive =>
    split
    · exact ha
    · next hcap =>
      have hbound := ha.within_cap hcap
      have hstate := cardAsItsState_valued (a := target.available + source.available) (b := target.held)
        (n := target.openHolds) (.inl (active_of_stateRefusal hactive)) (ha.card y target ht).state (by omega) d.now
      have hput := ha.putCard (w := source.available) ht hstate rfl rfl rfl (by simp only; omega)
      have hkept : tableFind (d.putCard y { target with
          available := target.available + source.available, lastPostingAt := d.now }).records.cards k = some source := by
        rw [Draft.putCard_records, tableFind_insert_ne _ _ hne]; exact hc
      have hretired := cardAsItsState_retired ((ha.card k source hc).held_zero hopen) hopen d.now .transferred
      exact (hput.putCard (w := 0) hkept hretired rfl rfl rfl (by simp only [retiredCard]; omega)).same
        (sameBooks_commit _)

theorem agrees_postCardTransfer (x y : Nat) : Agrees 0 (postCardTransfer x y d).1.records := by
  unfold postCardTransfer
  split
  · exact ha
  · next k c hcard =>
    have hc := (cardOf_some hcard).1
    split
    · exact ha
    · next hxy =>
      split
      · exact ha
      · split
        · exact ha
        · next hopen =>
          rw [not_not] at hopen
          split
          · next j t htarget =>
            have hne : k ≠ j := fun he => by
              have hsame := cardOf_some htarget
              rw [← he, hc] at hsame
              obtain rfl := Option.some.inj hsame.1
              exact hxy ((ha.serial_eq htarget).symm.trans (ha.serial_eq hcard))
            exact agrees_transferToCard ha hc (cardOf_some htarget).1 hne hopen
          · next htarget =>
            exact agrees_transferToNew ha hc hopen (by rw [← ha.lookup_none htarget])

end CardPostings

/-! Spends and holds -/

section HoldPostings

variable {d : Draft} (ha : Agrees 0 d.records)
include ha

theorem agrees_postRedeem (x m a : Nat) : Agrees 0 (postRedeem x m a d).1.records := by
  unfold postRedeem
  split
  · exact ha
  · next j c hok =>
    obtain ⟨hc, hactive, -⟩ := spendChecks_ok hok
    split
    · exact ha
    · next y happroved =>
      obtain ⟨hy, -⟩ := approve_some happroved
      have stands := ha.card j c hc
      obtain ⟨-, -, -, -, -, hbound⟩ := stands.state
      have hstate := cardAsItsState_spend (c := { c with available := c.available - y, lastPostingAt := d.now }) hactive
        (cardAsItsState_valued (.inl hactive) stands.state (by omega) d.now) d.records.limits d.now
      have kept := spendCard_keeps d.records.limits d.now { c with available := c.available - y, lastPostingAt := d.now }
      have hput : Agrees (-y) ((d.spendEvents c).putCard j (redeemedCard d c y)).records :=
        Agrees.putCard (d := d.spendEvents c) (c := c) ha hc hstate kept.serial kept.held kept.openHolds
          (by rw [redeemedCard, kept.available]; simp only; omega)
      exact (hput.takeValue (w := 0) m (by omega) (by omega) (by omega)).same
        ((sameBooks_evalMerchant _ m).trans (sameBooks_commit _))

theorem agrees_postHoldPlace (x m a l : Nat) (hamount : 1 ≤ a) : Agrees 0 (postHoldPlace x m a l d).1.records := by
  unfold postHoldPlace
  split
  · exact ha
  · next j c hok =>
    obtain ⟨hc, hactive, htrades⟩ := spendChecks_ok hok
    split
    · exact ha
    · next hfew =>
      split
      · exact ha
      · next hroom =>
        split
        · exact ha
        · next y happroved =>
          obtain ⟨hy, hpos⟩ := approve_some happroved
          have stands := ha.card j c hc
          obtain ⟨-, -, -, -, -, hbound⟩ := stands.state
          obtain ⟨-, -, -, hlow, hhigh, -⟩ := ha.holds
          simp only [Config.maxCardHolds, Config.maxHolds, Nat.not_le] at hfew hroom
          obtain ⟨-, -, -, hfresh, hidlow, hidhigh⟩ := allocateHoldId_spec (holds := d.records.holds) hlow hhigh (by omega)
          have hstate := cardAsItsState_spend hactive (c := { c with
            available := c.available - y, held := c.held + y, openHolds := c.openHolds + 1, lastPostingAt := d.now })
            (cardAsItsState_valued (.inl hactive) stands.state (by omega) d.now) d.records.limits d.now
          have kept := spendCard_keeps d.records.limits d.now { c with
            available := c.available - y, held := c.held + y, openHolds := c.openHolds + 1, lastPostingAt := d.now }
          exact (Agrees.newHold (d := d.spendEvents c) (h := placedHold d j m y l) ha hc hfresh hidlow hidhigh hroom hfew
            (hpos hamount) (.inl htrades) hstate kept.serial kept.held kept.openHolds
            (by rw [kept.available]; exact Nat.sub_add_cancel hy)).same (sameBooks_commit _)

end HoldPostings

/-! The end of a hold -/

theorem settledCard_available_le (now : Nat) (c : Card) : (settledCard now c).available ≤ c.available := by
  unfold settledCard
  split
  · exact Nat.le_refl _
  · exact Nat.zero_le _

/-- The settlement of a card moves out of outstanding what its retirement took from it (R41, R42). -/
theorem Agrees.moveSettled {d : Draft} {v : Int} {c : Card} {now : Nat} (h : Agrees v d.records)
    (hv : v = (settledCard now c).available - c.available) (hreason : finalReason c ≠ some .transferred) :
    Agrees 0 (d.moveSettled c).records := by
  unfold Draft.moveSettled
  unfold settledCard at hv
  split
  · next hf =>
    simp only [hf] at hv
    rw [Int.sub_self] at hv
    exact hv ▸ h
  · next reason hf =>
    simp only [hf, retiredCard] at hv
    exact h.moveOut (by omega) (fun he => hreason (he ▸ hf))

section HoldEnds

variable {d : Draft} {h : Hold} {c : Card} (ha : Agrees 0 d.records) (hmem : h ∈ d.records.holds)
  (hc : tableFind d.records.cards h.slot = some c)
include ha hmem hc

/-- A hold removed and its card settled, `back` of it returned and `drawn` taken besides: outstanding falls short by what
the card loses. -/
theorem Agrees.endSettled {back drawn : Nat} (hback : back ≤ h.amount) :
    Agrees ((settledCard d.now (endedCard d.now c h back drawn)).available - c.available - h.amount)
      ((d.removeHold h).putCard h.slot (settledCard d.now (endedCard d.now c h back drawn))).records ∧
    finalReason (endedCard d.now c h back drawn) ≠ some .transferred := by
  have stands := ha.card _ _ hc
  obtain ⟨-, -, hclosing, -, -, hbound⟩ := stands.state
  obtain ⟨hamount, hopen, hlast⟩ := ha.hold_card hmem hc
  have hstate := cardAsItsState_settled (now := d.now) (back := back) (drawn := drawn) stands.state hopen hlast (by omega)
  refine ⟨ha.endHold hmem hc hstate ?_ ?_ ?_ (by omega), fun hf => ?_⟩
  · unfold settledCard; split <;> rfl
  · unfold settledCard; split <;> exact Nat.sub_add_cancel hamount
  · unfold settledCard; split <;> exact Nat.sub_add_cancel hopen
  · unfold finalReason at hf
    split at hf
    · next hfinal => exact (hclosing hfinal.1).1 hf
    · cases hf

theorem agrees_releaseChanges : Agrees 0 (releaseChanges d h c).records := by
  obtain ⟨hended, hreason⟩ := ha.endSettled hmem hc (back := h.amount) (drawn := 0) (Nat.le_refl _)
  have hsettled : Agrees 0 ((d.removeHold h).settleCard h.slot (endedCard d.now c h h.amount 0)).records := by
    rw [settleCard_eq]
    exact hended.moveSettled (now := d.now) (by simp only [endedCard]; omega) hreason
  exact hsettled.same ((sameBooks_evalSettled _ _).trans (sameBooks_commit _))

/-- A completion: the merchant takes what the hold held and the card gave besides, less what returned to the card
(R63 to R65). -/
theorem agrees_completeChanges {x back drawn : Nat} (hdrawn : drawn ≤ c.available) (hback : back ≤ h.amount)
    (hsplit : back + x = h.amount + drawn) : Agrees 0 (completeChanges d h c x back drawn).records := by
  obtain ⟨hended, hreason⟩ := ha.endSettled hmem hc (back := back) (drawn := drawn) hback
  have hloss := settledCard_available_le d.now (endedCard d.now c h back drawn)
  have havailable : (endedCard d.now c h back drawn).available = c.available + back - drawn := rfl
  obtain ⟨hamount, -, -⟩ := ha.hold_card hmem hc
  obtain ⟨-, -, -, -, -, hbound⟩ := (ha.card _ _ hc).state
  have hsettled : Agrees 0 (((d.removeHold h).takeValue h.merchant x).settleCard h.slot
      (endedCard d.now c h back drawn)).records := by
    rw [settleCard_eq, takeValue_putCard]
    exact (hended.takeValue h.merchant rfl (by omega) (by omega)).moveSettled (now := d.now) (by omega) hreason
  exact hsettled.same ((sameBooks_evalMerchant _ _).trans ((sameBooks_evalSettled _ _).trans (sameBooks_commit _)))

theorem agrees_completeHold (amount : Nat) : Agrees 0 (completeHold d h c amount).1.records := by
  unfold completeHold
  split
  · exact agrees_releaseChanges ha hmem hc
  · split
    · exact ha
    · split
      · next hle => exact agrees_completeChanges ha hmem hc (Nat.zero_le _) (Nat.sub_le _ _) (by omega)
      · next hgt =>
        unfold completeOver
        split
        · next hdrawn => exact agrees_completeChanges ha hmem hc hdrawn (Nat.zero_le _) (by omega)
        · split
          · exact agrees_completeChanges ha hmem hc (Nat.le_refl _) (Nat.zero_le _) (by omega)
          · exact ha

end HoldEnds

section HoldRequests

variable {d : Draft} (ha : Agrees 0 d.records)
include ha

theorem agrees_postHoldComplete (id m a : Nat) : Agrees 0 (postHoldComplete id m a d).1.records := by
  unfold postHoldComplete
  split
  · exact ha
  · next h hfound =>
    split
    · exact ha
    · split
      · exact ha
      · next c hc => exact agrees_completeHold ha (findHold_some hfound).1 hc a

theorem agrees_postHoldVoid (id m : Nat) : Agrees 0 (postHoldVoid id m d).1.records := by
  unfold postHoldVoid
  split
  · exact ha
  · next h hfound =>
    split
    · exact ha
    · split
      · exact ha
      · next c hc =>
        have hreleased := agrees_releaseChanges ha (findHold_some hfound).1 hc
        split
        · exact hreleased
        · exact hreleased

theorem agrees_postExpiry (id : Nat) : Agrees 0 (postExpiry id d).records := by
  unfold postExpiry
  split
  · exact ha
  · next h hfound =>
    split
    · exact ha
    · next c hc => exact agrees_releaseChanges ha (findHold_some hfound).1 hc

end HoldRequests

end Sys2Proof.Machine
end

section
/-! PROOFS. The accounts under the postings of merchants, conditions, limits and periods, and under every step (R24, R29,
R52, R53, R96, R102). -/

namespace Sys2Proof.Machine

/-! Merchants -/

section MerchantPostings

variable {d : Draft} (ha : Agrees 0 d.records)
include ha

theorem agrees_postMerchantEnrol (m : Nat) (st : Settings) : Agrees 0 (postMerchantEnrol m st d).1.records := by
  unfold postMerchantEnrol
  simp only
  split
  · exact (ha.putMerchant (m := m) (x := { merchantOf d.records m with state := .enrolled, settings := st }) rfl
      (.inl (.inl rfl))).same (sameBooks_commit _)
  · exact ha
  · exact ha
  · exact ha

theorem agrees_postMerchantUpdate (m : Nat) (st : Settings) : Agrees 0 (postMerchantUpdate m st d).1.records := by
  have hupdated : Agrees 0 (updateChanges d m st).records :=
    ha.same ((sameBooks_putMerchant d (m := m) (x := { merchantOf d.records m with settings := st }) rfl rfl).trans
      (sameBooks_commit _))
  unfold postMerchantUpdate
  split
  · exact ha
  · exact ha
  · exact hupdated
  · exact hupdated

/-- A merchant moved between ENROLLED and SUSPENDED (R107, R108). -/
theorem agrees_moveMerchant (m : Nat) {st : MerchantState} (hst : st = .enrolled ∨ st = .suspended) :
    Agrees 0 (moveMerchant d m st).records :=
  (ha.putMerchant (m := m) (x := { merchantOf d.records m with state := st }) rfl (.inl hst)).same (sameBooks_commit _)

theorem agrees_postMerchantSuspend (m : Nat) : Agrees 0 (postMerchantSuspend m d).1.records := by
  unfold postMerchantSuspend
  split
  · exact agrees_moveMerchant ha m (.inr rfl)
  · exact ha
  · exact ha
  · exact ha

theorem agrees_postMerchantResume (m : Nat) : Agrees 0 (postMerchantResume m d).1.records := by
  unfold postMerchantResume
  split
  · exact agrees_moveMerchant ha m (.inl rfl)
  · exact ha
  · exact ha
  · exact ha

/-- A merchant with no open holds is named by no entry of the Hold Table (R53). -/
theorem Agrees.unnamed {m : Nat} (hopen : (merchantOf d.records m).openHolds = 0) :
    ∀ g ∈ d.records.holds, g.merchant ≠ m := by
  intro g hg hm
  have hnone : holdsOf d.records m = [] := List.eq_nil_of_length_eq_zero ((ha.counts m).symm.trans hopen)
  have hmem : g ∈ holdsOf d.records m := mem_holdsOf.2 ⟨hg, hm⟩
  rw [hnone] at hmem
  cases hmem

theorem agrees_withdrawTrading {m : Nat} (hm : m ≠ 0) : Agrees 0 (withdrawTrading m d).1.records := by
  unfold withdrawTrading
  simp only
  split
  · exact ha
  · next hopen =>
    rw [not_not] at hopen
    exact (ha.putMerchant (m := m) (x := { merchantOf d.records m with
      state := .withdrawn, withdrawnIn := some d.records.totals.openPeriod }) rfl (.inr ⟨hm, ha.unnamed hopen⟩)).same
      (sameBooks_commit _)

theorem agrees_postMerchantWithdraw {m : Nat} (hm : m ≠ 0) : Agrees 0 (postMerchantWithdraw m d).1.records := by
  unfold postMerchantWithdraw
  split
  · exact agrees_withdrawTrading ha hm
  · exact agrees_withdrawTrading ha hm
  · exact ha
  · exact ha

end MerchantPostings

/-! Conditions and limits -/

section Conditions

variable (d : Draft)

theorem sameBooks_clearMerchant (dt : Draft × Tally) (m : Nat) : SameBooks dt.1.records (clearMerchant dt m).1.records :=
  sameBooks_putMerchant dt.1 rfl rfl

theorem sameBooks_foldl_clear (l : List Nat) (dt : Draft × Tally) :
    SameBooks dt.1.records (l.foldl clearMerchant dt).1.records := by
  induction l generalizing dt with
  | nil => exact .refl _
  | cons m rest ih => exact (sameBooks_clearMerchant dt m).trans (ih _)

theorem sameBooks_clearEnd {dt : Draft × Tally} (h : SameBooks d.records dt.1.records) :
    SameBooks d.records (clearEnd d dt).1.records := by
  unfold clearEnd
  simp only
  split
  · exact .refl _
  · exact h.trans (sameBooks_commit _)

theorem sameBooks_postLatch (m : Nat) : SameBooks d.records (postLatch m d).records := by
  unfold postLatch
  simp only
  split
  · exact (sameBooks_latchRefund { d with qual := eraseQual d.qual m } m).trans (sameBooks_commit _)
  · exact .refl _

variable {d} (ha : Agrees 0 d.records)
include ha

theorem agrees_postLimitsValue (l : ValueLimits) : Agrees 0 (postLimitsValue l d).1.records := by
  unfold postLimitsValue
  split
  · next hrange =>
    simp only [valueInRange, Bool.and_eq_true, decide_eq_true_eq] at hrange
    obtain ⟨⟨⟨⟨-, hcap⟩, -⟩, -⟩, -⟩ := hrange
    exact ha.putLimits hcap
  · exact ha

omit ha in
theorem evalWatermarks_records (d : Draft) (old : MonitorLimits) : (d.evalWatermarks old).records = d.records := by
  unfold Draft.evalWatermarks
  simp only
  split
  · split <;> rfl
  · split <;> rfl

theorem agrees_postLimitsMonitor (l : MonitorLimits) : Agrees 0 (postLimitsMonitor l d).1.records := by
  unfold postLimitsMonitor
  split
  · simp only [evalWatermarks_records]
    exact ha.putLimits ha.cap
  · exact ha

theorem agrees_postLimitsDevice (l : DeviceLimits) : Agrees 0 (postLimitsDevice l d).1.records := by
  unfold postLimitsDevice
  split
  · exact ha.putLimits (l := { d.records.limits with device := l }) ha.cap
  · exact ha

end Conditions

/-! Periods -/

section Periods

variable (d : Draft)

theorem sameBooks_postScheduleStage (sel : Select) (sc : Schedule) :
    SameBooks d.records (postScheduleStage sel sc d).1.records := by
  unfold postScheduleStage
  split
  · cases sel <;> exact { SameBooks.refl d.records with }
  · exact .refl _

theorem sameBooks_postPeriodClose : SameBooks d.records (postPeriodClose d).1.records := by
  unfold postPeriodClose
  simp only
  split
  · exact (sameBooks_cutover d).trans (sameBooks_commit _)
  · exact .refl _

theorem sameBooks_postAlarmCutover : SameBooks d.records (postAlarmCutover d).records := by
  unfold postAlarmCutover
  split
  · exact (sameBooks_cutover d).trans (sameBooks_commit _)
  · exact { SameBooks.refl d.records with }

theorem sameBooks_postStatementStep (m : Nat) : SameBooks d.records (postStatementStep m d).records := by
  have hready : (d.readyEvent m).records = d.records := by unfold Draft.readyEvent; split <;> rfl
  unfold postStatementStep
  simp only
  split
  · simp only [skipStatement, Draft.mapRecords_records, hready]
    exact { SameBooks.refl d.records with }
  · refine SameBooks.trans ?_ (sameBooks_evalDeficit _ m)
    simp only [Draft.putEntry_records, Draft.mapRecords_records, hready]
    exact { SameBooks.refl d.records with }

theorem sameBooks_deferredCutover : SameBooks d.records d.deferredCutover.records := by
  unfold Draft.deferredCutover
  split
  · exact { SameBooks.refl d.records with }
  · exact .refl _

variable {d}

/-- Merchants no hold names, none of them merchant 0, returned to UNENROLLED (R112). -/
theorem agrees_foldl_returnMerchant {l : List Nat} (ha : Agrees 0 d.records)
    (hquiet : ∀ m ∈ l, m ≠ 0 ∧ ∀ g ∈ d.records.holds, g.merchant ≠ m) :
    Agrees 0 (l.foldl Draft.returnMerchant d).records := by
  induction l generalizing d with
  | nil => exact ha
  | cons m rest ih =>
    have hreturned : Agrees 0 (d.returnMerchant m).records :=
      (ha.putMerchant (m := m) (x := { unenrolledMerchant with openHolds := (merchantOf d.records m).openHolds }) rfl
        (.inr (hquiet m List.mem_cons_self))).same (sameBooks_putEntry _ m zeroEntry)
    exact ih hreturned (fun k hk => hquiet k (List.mem_cons_of_mem _ hk))

/-- A WITHDRAWN merchant is not merchant 0, and no hold names it (R53, R101). -/
theorem Agrees.withdrawn_quiet {r : Records} (ha : Agrees 0 r) {m : Nat} (hm : (merchantOf r m).state = .withdrawn) :
    m ≠ 0 ∧ ∀ g ∈ r.holds, g.merchant ≠ m := by
  refine ⟨fun he => ?_, fun g hg he => ?_⟩
  · have hdesk := ha.desk
    rw [← he, hm] at hdesk
    rcases hdesk with hs | hs <;> cases hs
  · obtain ⟨-, -, -, -, -, hall⟩ := ha.holds
    obtain ⟨-, -, -, -, htrades⟩ := hall g hg
    rw [he, hm] at htrades
    rcases htrades with hs | hs <;> cases hs

theorem agrees_postStatementsRelease (hrising : rising d.records.merchants = true) (ha : Agrees 0 d.records) (q : Nat) :
    Agrees 0 (postStatementsRelease q d).1.records := by
  unfold postStatementsRelease
  simp only
  split
  · exact ha
  · exact ha
  · exact ha
  · split
    · exact ha
    · have hquiet : ∀ m ∈ returnedMerchants d.records q, m ≠ 0 ∧ ∀ g ∈ d.records.holds, g.merchant ≠ m := fun m hm => by
        obtain ⟨e, he, rfl⟩ := List.mem_map.1 hm
        obtain ⟨hmem, hreturned⟩ := List.mem_filter.1 he
        simp only [isReturned, Bool.and_eq_true, decide_eq_true_eq] at hreturned
        exact ha.withdrawn_quiet (by rw [merchantOf_listed hrising hmem]; exact hreturned.1)
      have hreleased : Agrees 0 (d.mapRecords releaseBank).records := ha.same { SameBooks.refl d.records with }
      exact (agrees_foldl_returnMerchant hreleased hquiet).same
        ((sameBooks_deferredCutover _).trans (sameBooks_commit _))

end Periods

/-! Every step -/

/-- A posting keeps the accounts when it keeps the tables and the numbers agree after it. -/
theorem accounts_of_agrees {d e : Draft} (hk : Kept d e)
    (ha : rising d.records.merchants = true → Agrees 0 d.records → Agrees 0 e.records) (h : AccountsAgree d.records) :
    AccountsAgree e.records := by
  rw [accountsAgree_iff] at h ⊢
  obtain ⟨htables, hnumbers⟩ := h
  obtain ⟨-, -, hmerchants, -, -⟩ := (tablesCanonical_iff _).1 htables
  exact ⟨hk.tables htables, ha (canonical_rising hmerchants) hnumbers⟩

/-- Every request of the Posting class keeps the accounts. -/
theorem request_keeps_accounts {i : Instr} (hq : isRequest i = true) (hr : isRead i = false) (hw : WellFormed i = true) :
    ∃ body, (∀ s, exec i s = .next (grantLink (readsServed s) i body)) ∧
      ∀ d, AccountsAgree d.records → AccountsAgree (body d).1.records := by
  cases i <;> simp only [isRequest, isRead, Bool.false_eq_true, reduceCtorEq] at hq hr
  case cardIssue => exact ⟨_, fun _ => rfl, fun d => accounts_of_agrees (kept_postCardIssue d _ _ _ _) fun _ h =>
    agrees_postCardIssue h _ _ _ _⟩
  case cardReload => exact ⟨_, fun _ => rfl, fun d => accounts_of_agrees (kept_postCardReload d _ _ _) fun _ h =>
    agrees_postCardReload h _ _ _⟩
  case cardLock => exact ⟨_, fun _ => rfl, fun d => accounts_of_agrees (kept_postCardLock d _) fun _ h =>
    agrees_postCardLock h _⟩
  case cardUnlock => exact ⟨_, fun _ => rfl, fun d => accounts_of_agrees (kept_postCardUnlock d _) fun _ h =>
    agrees_postCardUnlock h _⟩
  case cardRetire =>
    simp only [WellFormed, Bool.and_eq_true, decide_eq_true_eq] at hw
    exact ⟨_, fun _ => rfl, fun d => accounts_of_agrees (kept_postCardRetire d _ _) fun _ h =>
      agrees_postCardRetire h _ hw.2⟩
  case cardTransfer => exact ⟨_, fun _ => rfl, fun d => accounts_of_agrees (kept_postCardTransfer d _ _) fun _ h =>
    agrees_postCardTransfer h _ _⟩
  case cardPurge => exact ⟨_, fun _ => rfl, fun d => accounts_of_agrees (kept_postCardPurge d _) fun _ h =>
    agrees_postCardPurge h _⟩
  case redeem => exact ⟨_, fun _ => rfl, fun d => accounts_of_agrees (kept_postRedeem d _ _ _) fun _ h =>
    agrees_postRedeem h _ _ _⟩
  case holdPlace x m a l =>
    have hamount : 1 ≤ a := by
      simp only [WellFormed, amountOk, Bool.and_eq_true, decide_eq_true_eq] at hw
      omega
    exact ⟨_, fun _ => rfl, fun d => accounts_of_agrees (kept_postHoldPlace d _ _ _ _) fun _ h =>
      agrees_postHoldPlace h _ _ _ _ hamount⟩
  case holdComplete => exact ⟨_, fun _ => rfl, fun d => accounts_of_agrees (kept_postHoldComplete d _ _ _) fun _ h =>
    agrees_postHoldComplete h _ _ _⟩
  case holdVoid => exact ⟨_, fun _ => rfl, fun d => accounts_of_agrees (kept_postHoldVoid d _ _) fun _ h =>
    agrees_postHoldVoid h _ _⟩
  case refund => exact ⟨_, fun _ => rfl, fun d => accounts_of_agrees (kept_postRefund d _ _ _) fun _ h =>
    agrees_postRefund h _ _ _⟩
  case merchantEnrol => exact ⟨_, fun _ => rfl, fun d => accounts_of_agrees (kept_postMerchantEnrol d _ _) fun _ h =>
    agrees_postMerchantEnrol h _ _⟩
  case merchantUpdate => exact ⟨_, fun _ => rfl, fun d => accounts_of_agrees (kept_postMerchantUpdate d _ _) fun _ h =>
    agrees_postMerchantUpdate h _ _⟩
  case merchantSuspend => exact ⟨_, fun _ => rfl, fun d => accounts_of_agrees (kept_postMerchantSuspend d _) fun _ h =>
    agrees_postMerchantSuspend h _⟩
  case merchantResume => exact ⟨_, fun _ => rfl, fun d => accounts_of_agrees (kept_postMerchantResume d _) fun _ h =>
    agrees_postMerchantResume h _⟩
  case merchantWithdraw =>
    simp only [WellFormed, Bool.and_eq_true, decide_eq_true_eq] at hw
    exact ⟨_, fun _ => rfl, fun d => accounts_of_agrees (kept_postMerchantWithdraw d _) fun _ h =>
      agrees_postMerchantWithdraw h hw.2⟩
  case scheduleStage => exact ⟨_, fun _ => rfl, fun d => accounts_of_agrees (kept_postScheduleStage d _ _) fun _ h =>
    h.same (sameBooks_postScheduleStage d _ _)⟩
  case periodClose => exact ⟨_, fun _ => rfl, fun d => accounts_of_agrees (kept_postPeriodClose d) fun _ h =>
    h.same (sameBooks_postPeriodClose d)⟩
  case statementsRelease => exact ⟨_, fun _ => rfl, fun d => accounts_of_agrees (kept_postStatementsRelease d _) fun hm h =>
    agrees_postStatementsRelease hm h _⟩
  case conditionsClearDevice => exact ⟨_, fun _ => rfl, fun d => accounts_of_agrees (kept_postClearDevice d) fun _ h => h⟩
  case conditionsClearMerchant => exact ⟨_, fun _ => rfl, fun d => accounts_of_agrees (kept_postClearMerchant d _) fun _ h =>
    h.same (sameBooks_clearEnd d (sameBooks_clearMerchant (d, _) _))⟩
  case conditionsClearAllMerchants => exact ⟨_, fun _ => rfl, fun d =>
    accounts_of_agrees (kept_postClearAllMerchants d) fun _ h =>
      h.same (sameBooks_clearEnd d (sameBooks_foldl_clear _ (d, _)))⟩
  case conditionsClearCard => exact ⟨_, fun _ => rfl, fun d => accounts_of_agrees (kept_postClearCard d _) fun _ h =>
    agrees_postClearCard h _⟩
  case limitsSetValue => exact ⟨_, fun _ => rfl, fun d => accounts_of_agrees (kept_postLimitsValue d _) fun _ h =>
    agrees_postLimitsValue h _⟩
  case limitsSetMonitor => exact ⟨_, fun _ => rfl, fun d => accounts_of_agrees (kept_postLimitsMonitor d _) fun _ h =>
    agrees_postLimitsMonitor h _⟩
  case limitsSetDevice => exact ⟨_, fun _ => rfl, fun d => accounts_of_agrees (kept_postLimitsDevice d _) fun _ h =>
    agrees_postLimitsDevice h _⟩

theorem postings_keep_accounts : PostingsKeep AccountsAgree where
  request := fun _ hq hr hw => request_keeps_accounts hq hr hw
  expiry := fun id d => accounts_of_agrees (kept_postExpiry d id) fun _ h => agrees_postExpiry h id
  alarm := fun d => accounts_of_agrees (kept_postAlarmCutover d) fun _ h => h.same (sameBooks_postAlarmCutover d)
  statement := fun m d =>
    accounts_of_agrees (kept_postStatementStep d m) fun _ h => h.same (sameBooks_postStatementStep d m)
  latch := fun m d => accounts_of_agrees (kept_postLatch d m) fun _ h => h.same (sameBooks_postLatch d m)
  floor := fun r n h => by
    rw [accountsAgree_iff] at h ⊢
    obtain ⟨htables, hnumbers⟩ := h
    rw [tablesCanonical_iff] at htables ⊢
    exact ⟨htables, hnumbers.same { SameBooks.refl r with }⟩

theorem accountsInv_iff (s : State) : accountsInv s = true ↔ Stands AccountsAgree s := by
  simp only [accountsInv, Bool.and_eq_true, decide_eq_true_eq, Option.all_eq_true]
  exact ⟨fun h => ⟨h.1, h.2⟩, fun h => ⟨h.records, h.change⟩⟩

/-- Settles O58: every posting leaves accounts that agree, and only postings write them. -/
theorem stepKeepsTheAccounts : Obligations.StepKeepsTheAccounts := by
  unfold Obligations.StepKeepsTheAccounts
  intro s t hs h
  rw [accountsInv_iff] at hs ⊢
  exact step_stands postings_keep_accounts hs h

end Sys2Proof.Machine
end

section
/-! PROOFS. CARD_PURGE, LIMITS_SET and CARD_ISSUE in full (R22, R33, R34, R46, R193). -/

namespace Sys2Proof.Machine

/-- A granted request has the posting in flight that its row judges. -/
theorem exec_judged {i : Instr} {s : State} {q : Slot} {body : Draft → Judged} {d : Draft} {a : Answer}
    (h : Granted s i q) (hexec : exec i s = .next (grantLink (readsServed s) i body))
    (hbody : body (startDraft s) = (d, a)) : exec i s = .next (underWay s q d a) := by
  have ⟨_, _, _, hnone⟩ := h
  rw [hexec, readsServed_none hnone, grantLink_granted h, hbody]

theorem latchBit_eq_latchEvent (f : DevFlag) (live : Bool) : latchBit f live = latchEvent f live := by
  unfold latchBit latchEvent newlyLatched
  cases live <;> cases f.latched <;> rfl

/-! CARD_PURGE -/

/-- Settles O29: the purge of a RETIRED card is the write of `purgeCard` with DIRECTORY_HIGH evaluated after it. -/
theorem cardPurgeVacatesTheSlot : Obligations.CardPurgeVacatesTheSlot := by
  unfold Obligations.CardPurgeVacatesTheSlot
  intro s x q j c hg hcard
  have hjudged : postCardPurge x (startDraft s) =
      if c.state = .retired then (((startDraft s).purgeCard j).evalDirHigh.commit, answer .ok (field 2 j))
      else (startDraft s, refuse .notRetired) := by
    unfold postCardPurge
    rw [startDraft_records, hcard]
  refine ⟨fun hretired => ?_, fun hlive => ?_, tableFind_erase_self _ _, fun k hk => tableFind_erase_ne _ hk⟩
  · rw [exec_judged hg rfl (hjudged.trans (if_pos hretired))]
    simp only [Draft.purgeCard, Draft.evalDirHigh, Draft.commit, Draft.mapRecords, startDraft, BitVec.zero_or]
    rfl
  · exact exec_judged hg rfl (hjudged.trans (if_neg hlive))

/-! LIMITS_SET -/

theorem valueInRange_iff (v : ValueLimits) : valueInRange v = true ↔
    1 ≤ v.cap ∧ v.cap ≤ 100000000 ∧ 1 ≤ v.holdMin ∧ v.holdMin ≤ v.holdMax ∧ v.holdMax ≤ 2592000 := by
  simp only [valueInRange, Bool.and_eq_true, decide_eq_true_eq, and_assoc]

theorem monitorInRange_iff (n : MonitorLimits) : monitorInRange n = true ↔
    n.ratio ≤ 65535 ∧ n.refundFloor ≤ 1099511627775 ∧ n.qualTime ≤ 86400 ∧ n.deficitLimit ≤ 1099511627775 ∧
    1 ≤ n.velocityLimit ∧ n.velocityLimit ≤ 254 ∧ 1 ≤ n.velocityWindow ∧ n.velocityWindow ≤ 86400 ∧ 1 ≤ n.dirWatermark ∧
    n.dirWatermark ≤ 32768 ∧ 1 ≤ n.holdWatermark ∧ n.holdWatermark ≤ 4096 := by
  simp only [monitorInRange, Bool.and_eq_true, decide_eq_true_eq, and_assoc]

theorem deviceInRange_iff (v : DeviceLimits) : deviceInRange v = true ↔
    1 ≤ v.guardTime ∧ v.guardTime ≤ 255 ∧ v.alarmTime ≤ 86399 := by
  simp only [deviceInRange, Bool.and_eq_true, decide_eq_true_eq, and_assoc]

/-- What the re-evaluation of changed watermarks does to the device flags and the events, and that it does nothing else
(R154). -/
theorem evalWatermarks_spec (d : Draft) (old : MonitorLimits) :
    let n := d.records.limits.monitor
    let dir := dirHighTest d.records
    let holds := holdsHighTest d.records
    d.evalWatermarks old = { d with
      dirHigh := if old.dirWatermark = n.dirWatermark then d.dirHigh else evalFlag d.dirHigh dir
      holdsHigh := if old.holdWatermark = n.holdWatermark then d.holdsHigh else evalFlag d.holdsHigh holds
      events := d.events ||| (if old.dirWatermark = n.dirWatermark then 0x00#8 else latchEvent d.dirHigh dir) |||
        (if old.holdWatermark = n.holdWatermark then 0x00#8 else latchEvent d.holdsHigh holds) } := by
  simp only [Draft.evalWatermarks, ← latchBit_eq_latchEvent]
  by_cases hdir : old.dirWatermark = d.records.limits.monitor.dirWatermark
  · by_cases hholds : old.holdWatermark = d.records.limits.monitor.holdWatermark
    · simp [hdir, hholds]
    · simp [hdir, hholds, Draft.evalHoldsHigh]
  · by_cases hholds : old.holdWatermark = d.records.limits.monitor.holdWatermark
    · simp [hdir, hholds, Draft.evalDirHigh]
    · simp [hdir, hholds, Draft.evalHoldsHigh, Draft.evalDirHigh]

theorem changesLevels_eq_false_iff (old l : DeviceLimits) :
    changesLevels old l = false ↔ l.warning = old.warning ∧ l.guardTime = old.guardTime := by
  rw [changesLevels, Bool.or_eq_false_iff, decide_eq_false_iff_not, decide_eq_false_iff_not, not_not, not_not,
    eq_comm (a := old.warning), eq_comm (a := old.guardTime)]

/-- Settles O48: each group is judged by its ranges, and only the MONITOR and DEVICE groups call for more than the
replacement. -/
theorem limitsSetReplacesTheGroup : Obligations.LimitsSetReplacesTheGroup := by
  unfold Obligations.LimitsSetReplacesTheGroup
  intro s q
  refine ⟨fun v hg => ⟨fun hgood => ?_, fun hbad => ?_⟩, fun n hg => ⟨fun hgood => ?_, fun hbad => ?_⟩,
    fun v hg => ⟨fun hgood => ?_, fun hbad => ?_⟩⟩
  · exact exec_judged hg rfl (if_pos ((valueInRange_iff v).2 hgood))
  · exact exec_judged hg rfl (if_neg (mt (valueInRange_iff v).1 hbad))
  · refine ⟨_, exec_judged hg rfl ((if_pos ((monitorInRange_iff n).2 hgood)).trans
      (congrArg (fun d => (d, _)) (evalWatermarks_spec _ _))), rfl, ?_, ?_, ?_, rfl, rfl, rfl, rfl⟩
    · simp only [eq_comm (a := n.dirWatermark)]; rfl
    · simp only [eq_comm (a := n.holdWatermark)]; rfl
    · simp only [eq_comm (a := n.dirWatermark), eq_comm (a := n.holdWatermark), Draft.putLimits_events, startDraft_events,
        BitVec.zero_or]
      rfl
  · exact exec_judged hg rfl (if_neg (mt (monitorInRange_iff n).1 hbad))
  · refine (exec_judged hg rfl (if_pos ((deviceInRange_iff v).2 hgood))).trans ?_
    by_cases hsame : v.warning = s.records.limits.device.warning ∧ v.guardTime = s.records.limits.device.guardTime
    · have hlevels := (changesLevels_eq_false_iff s.records.limits.device v).2 hsame
      simp only [startDraft_records, hlevels, if_pos hsame]
      rfl
    · have hlevels : changesLevels s.records.limits.device v = true :=
        (Bool.not_eq_false _).mp (mt (changesLevels_eq_false_iff _ v).1 hsame)
      simp only [startDraft_records, hlevels, if_neg hsame]
      rfl
  · exact exec_judged hg rfl (if_neg (mt (deviceInRange_iff v).1 hbad))

end Sys2Proof.Machine
end

section
/-! PROOFS. CARD_ISSUE in full (R19, R33, R34, R152). -/

namespace Sys2Proof.Machine

/-! What the evaluation of a merchant's conditions reads -/

/-- Two change-sets agree in all that the evaluation of merchant conditions reads and writes. -/
structure SameJudged (d e : Draft) : Prop where
  merchants : d.records.merchants = e.records.merchants
  limits : d.records.limits = e.records.limits
  entries : d.records.openBank.entries = e.records.openBank.entries
  qual : d.qual = e.qual
  events : d.events = e.events
  now : d.now = e.now

section SameJudged

variable {d e : Draft} (h : SameJudged d e) (m : Nat)
include h

theorem SameJudged.merchantOf_eq : merchantOf d.records m = merchantOf e.records m := by
  rw [merchantOf, merchantOf, h.merchants]

theorem SameJudged.openEntry_eq : openEntry d.records m = openEntry e.records m := by
  rw [openEntry, openEntry, h.entries]

theorem SameJudged.putMerchant (x : Merchant) : SameJudged (d.putMerchant m x) (e.putMerchant m x) where
  merchants := congrArg (fun t => tablePut unenrolledMerchant t m x) h.merchants
  limits := h.limits
  entries := h.entries
  qual := h.qual
  events := h.events
  now := h.now

theorem SameJudged.raise (ev : Event) : SameJudged (d.raise ev) (e.raise ev) :=
  { h with events := congrArg (fun b => b ||| eventBit ev) h.events }

theorem SameJudged.latchDeficit : SameJudged (d.latchDeficit m) (e.latchDeficit m) := by
  unfold Draft.latchDeficit
  rw [h.merchantOf_eq, h.limits]
  exact (h.putMerchant m _).raise _

theorem SameJudged.latchRefund : SameJudged (d.latchRefund m) (e.latchRefund m) := by
  unfold Draft.latchRefund
  rw [h.merchantOf_eq, h.limits]
  exact (h.putMerchant m _).raise _

theorem SameJudged.evalDeficit : SameJudged (d.evalDeficit m) (e.evalDeficit m) := by
  unfold Draft.evalDeficit
  rw [h.merchantOf_eq, h.openEntry_eq, h.limits]
  split
  · exact h.latchDeficit m
  · exact h

theorem SameJudged.evalRefund : SameJudged (d.evalRefund m) (e.evalRefund m) := by
  unfold Draft.evalRefund
  rw [h.merchantOf_eq, h.openEntry_eq, h.limits, h.qual, h.now]
  split
  · split
    · exact h
    · split
      · exact h
      · split
        · exact h.latchRefund m
        · exact { h with qual := rfl, now := rfl }
  · exact { h with qual := rfl, now := rfl }

theorem SameJudged.evalMerchant : SameJudged (d.evalMerchant m) (e.evalMerchant m) := (h.evalDeficit m).evalRefund m

end SameJudged

/-! An approved issue -/

theorem salesRefusal_none {x : Merchant} (hstate : x.state = .enrolled) (hpermitted : x.settings.salesPermitted = true)
    (hblocked : x.salesBlocked = false) : salesRefusal x = none := by
  simp [salesRefusal, tradingRefusal, hstate, hpermitted, hblocked]

/-- An issue that passes its checks is approved (R33). -/
theorem postCardIssue_approved {d : Draft} {x m a v j : Nat} (hsales : salesRefusal (merchantOf d.records m) = none)
    (hcap : a ≤ d.records.limits.value.cap) (hlookup : lookup d.records.directory x = { slot := none, free := some j }) :
    postCardIssue x m a v d =
      (issueChanges d j (issuedCard x m a v d.now) m a,
        answer .ok (field 2 j ++ field 4 a ++ optTimeField (issuedCard x m a v d.now).validUntil)) := by
  have hunder : ¬ overCap d.records.limits 0 a = true := by
    simp only [overCap, decide_eq_true_eq]; omega
  unfold postCardIssue
  rw [hsales, hlookup]
  exact if_neg hunder

theorem issueChanges_eq (d : Draft) (j : Nat) (c : Card) (m a : Nat) :
    issueChanges d j c m a = ((d.placeCard j c).postValue m .s a a).evalDirHigh.commit := rfl

/-- The records an approved issue leaves, but for the merchant's flags and its entry. -/
theorem issueChanges_records (d : Draft) (j : Nat) (c : Card) (m a : Nat) :
    let r := d.records
    let r' := (issueChanges d j c m a).records
    r' = { r with
      directory := tablePut .empty r.directory j (.used c.serial)
      occupancy := r.occupancy + 1
      cards := tableInsert r.cards j c
      merchants := r'.merchants
      openBank := { r.openBank with
        entries := r'.openBank.entries
        saturated := r.openBank.saturated ||
          (overflows ((openEntry r m).s + a) || overflows (r.totals.outstanding + a)) }
      totals := { r.totals with outstanding := satPos (r.totals.outstanding + a), floor := d.now } } := by
  have hvalue := Draft.postValue_records (d.placeCard j c) m .s a a
  simp only at hvalue ⊢
  rw [issueChanges_eq, Draft.commit_records, Draft.evalDirHigh_records, hvalue]
  simp only [Draft.evalDirHigh_now, Draft.postValue_now]
  rfl

section Issue

variable (d : Draft) (j : Nat) (c : Card) (m a : Nat)

/-- The merchants: only flags and blocks of the merchant itself can move. -/
theorem issueChanges_merchant (k : Nat) :
    let u := merchantOf d.records k
    let v := merchantOf (issueChanges d j c m a).records k
    v.state = u.state ∧ v.settings = u.settings ∧ v.openHolds = u.openHolds ∧ v.withdrawnIn = u.withdrawnIn ∧
      (k ≠ m → v = u) := by
  have h := Draft.postValue_merchant (d.placeCard j c) m .s a a k
  simp only [merchantOf, Draft.placeCard_records] at h
  simp only [merchantOf, issueChanges_eq, Draft.commit_records, Draft.evalDirHigh_records]
  exact h

theorem issueChanges_entry (k : Nat) : openEntry (issueChanges d j c m a).records k =
    if k = m then raiseEntry (openEntry d.records m) .s a else openEntry d.records k := by
  have h := Draft.postValue_entry (d.placeCard j c) m .s a a k
  simp only [openEntry, Draft.placeCard_records] at h
  simp only [openEntry, issueChanges_eq, Draft.commit_records, Draft.evalDirHigh_records]
  exact h

/-- DIRECTORY_HIGH is evaluated on the count the issue raised, and the merchant's conditions are those of its value
posting (R152, R154). -/
theorem issueChanges_flags :
    let live := decide (d.records.limits.monitor.dirWatermark ≤ d.records.occupancy + 1)
    (issueChanges d j c m a).dirHigh = evalFlag d.dirHigh live ∧ (issueChanges d j c m a).holdsHigh = d.holdsHigh ∧
    (issueChanges d j c m a).events = ((d.placeCard j c).postValue m .s a a).events ||| latchEvent d.dirHigh live := by
  have htest : dirHighTest ((d.placeCard j c).postValue m .s a a).records =
      decide (d.records.limits.monitor.dirWatermark ≤ d.records.occupancy + 1) := by
    rw [Draft.postValue_records]; rfl
  simp only [issueChanges_eq, Draft.commit_dirHigh, Draft.evalDirHigh_dirHigh, Draft.commit_holdsHigh,
    Draft.evalDirHigh_holdsHigh, Draft.commit_events, Draft.evalDirHigh_events, htest, Draft.postValue_dirHigh,
    Draft.postValue_holdsHigh, latchBit_eq_latchEvent]
  exact ⟨rfl, rfl, rfl⟩

/-- The merchant's conditions are evaluated on the entry the issue leaves (R152). -/
theorem issueChanges_judged :
    let start := { d with records := { (issueChanges d j c m a).records with merchants := d.records.merchants } }
    let e := start.evalMerchant m
    (issueChanges d j c m a).records.merchants = e.records.merchants ∧ (issueChanges d j c m a).qual = e.qual ∧
    ((d.placeCard j c).postValue m .s a a).events = e.events := by
  have hbank : (issueChanges d j c m a).records.openBank =
      (((d.placeCard j c).post m .s a).addOutstanding a).records.openBank := by
    simp only [issueChanges_eq, Draft.commit_records, Draft.evalDirHigh_records, Draft.postValue,
      Draft.evalMerchant_openBank]
  have hstart : SameJudged (((d.placeCard j c).post m .s a).addOutstanding a)
      { d with records := { (issueChanges d j c m a).records with merchants := d.records.merchants } } :=
    { merchants := rfl
      limits := (congrArg Records.limits (issueChanges_records d j c m a)).symm
      entries := (congrArg Bank.entries hbank).symm
      qual := rfl
      events := rfl
      now := rfl }
  have hsame := hstart.evalMerchant m
  simp only [issueChanges_eq, Draft.commit_records, Draft.evalDirHigh_records, Draft.commit_qual, Draft.evalDirHigh_qual,
    Draft.postValue] at hsame ⊢
  exact ⟨hsame.merchants, hsame.qual, hsame.events⟩

theorem issueChanges_qual (k : Qual) (h : k.merchant ≠ m) : k ∈ (issueChanges d j c m a).qual ↔ k ∈ d.qual :=
  Draft.postValue_qual (d.placeCard j c) m .s a a k h

theorem issueChanges_plain : (issueChanges d j c m a).now = d.now ∧
    (issueChanges d j c m a).clearsAlarm = d.clearsAlarm ∧ (issueChanges d j c m a).finish = d.finish := by
  rw [issueChanges_eq]
  exact ⟨by simp, by simp, by simp⟩

end Issue

/-- Settles O23: an issue places the card and moves its value as every value posting does. -/
theorem cardIssueCreatesTheCard : Obligations.CardIssueCreatesTheCard := by
  unfold Obligations.CardIssueCreatesTheCard
  intro s x m a v q j hg htrades hpermitted hblocked hcap hlookup
  have hjudged := postCardIssue_approved (d := startDraft s) (v := v) (salesRefusal_none htrades hpermitted hblocked) hcap
    hlookup
  obtain ⟨c, hc⟩ : ∃ c, c = issuedCard x m a v (startDraft s).now := ⟨_, rfl⟩
  have hserial : c.serial = x := hc ▸ rfl
  rw [← hc] at hjudged
  have hrecords := issueChanges_records (startDraft s) j c m a
  have hmerchant := issueChanges_merchant (startDraft s) j c m a
  have hentry := issueChanges_entry (startDraft s) j c m a
  have hqual := issueChanges_qual (startDraft s) j c m a
  have hplain := issueChanges_plain (startDraft s) j c m a
  obtain ⟨hmerchants, hlist, hjudgedEvents⟩ := issueChanges_judged (startDraft s) j c m a
  obtain ⟨hflag, hholdsHigh, hevents⟩ := issueChanges_flags (startDraft s) j c m a
  rw [hjudgedEvents] at hevents
  generalize issueChanges (startDraft s) j c m a = d at *
  have hsaturated := congrArg (fun r => r.openBank.saturated) hrecords
  have hretired := congrArg (fun r => r.openBank.retiredInPeriod) hrecords
  have hdirectory : d.records.directory = tablePut .empty s.records.directory j (.used x) :=
    hserial ▸ (congrArg Records.directory hrecords :)
  refine ⟨d, ?granted, ?directory, ?others, ?occupancy, ?card, ?entry, ?totals, hsaturated,
    ⟨(congrArg (fun r => r.totals.retiredValue) hrecords :), hretired⟩, ?counts,
    ⟨(congrArg Records.holds hrecords :), (congrArg Records.holdIdCounter hrecords :)⟩, ?live, ?latched, hholdsHigh,
    ?evaluated, ?cards, ?entries, ?merchants, ?periods, ?qual, hplain⟩
  case granted => exact exec_judged hg rfl (hjudged.trans (by rw [hc]; rfl))
  case directory => rw [hdirectory, slotState_put, if_pos rfl]
  case others => exact fun k hk => by rw [hdirectory, slotState_put, if_neg hk]
  case occupancy => exact (congrArg Records.occupancy hrecords :)
  case card => rw [hrecords]; exact (tableFind_insert_self _ _ _).trans (congrArg some hc)
  case entry => exact (hentry m).trans (if_pos rfl)
  case totals => exact (congrArg Records.totals hrecords :)
  case counts =>
    intro k
    obtain ⟨-, -, hopen, -, -⟩ := hmerchant k
    exact hopen
  case live => rw [hflag]; rfl
  case latched => rw [hflag]; rfl
  case evaluated => exact ⟨hmerchants, hlist, by rw [hflag]; exact hevents⟩
  case cards => intro k hk; rw [hrecords]; exact tableFind_insert_ne _ _ (List.ne_of_not_mem_cons hk)
  case entries => exact fun k hk => (hentry k).trans (if_neg (List.ne_of_not_mem_cons hk))
  case merchants =>
    refine ⟨fun k hk => ?_, fun k => ?_⟩
    · obtain ⟨-, -, -, -, hother⟩ := hmerchant k
      exact hother (List.ne_of_not_mem_cons hk)
    · obtain ⟨hstate, hsettings, -, hwithdrawn, -⟩ := hmerchant k
      exact ⟨hstate, hsettings, hwithdrawn⟩
  case periods =>
    refine ⟨(congrArg Records.closingBank hrecords :), (congrArg Records.stagedA hrecords :),
      (congrArg Records.stagedB hrecords :), (congrArg Records.stagedAValid hrecords :),
      (congrArg Records.stagedBValid hrecords :), (congrArg Records.limits hrecords :), ?_,
      (congrArg (fun r => r.totals.openPeriod) hrecords :), (congrArg (fun r => r.totals.closeDeferred) hrecords :)⟩
    simp only at hsaturated hretired
    rw [hsaturated, hretired]
    exact (congrArg Records.openBank hrecords :)
  case qual => exact fun k hk => hqual k (List.ne_of_not_mem_cons hk)

end Sys2Proof.Machine
end

section
/-! PROOFS. CARD_LOCK and CARD_UNLOCK, and the refusals of the card requests in their order (R33, R35, R36, R37, R39, R43,
R46). -/

namespace Sys2Proof.Machine

/-! What the card requests judge on a card that is found -/

section Found

variable {d : Draft} {x j : Nat} {c : Card} (hcard : cardOf d.records x = some (j, c))
include hcard

theorem postCardLock_refused {r : Result} (h : lifeRefusal c.state = some r) : postCardLock x d = (d, refuse r) := by
  simp only [postCardLock, hcard, h]

theorem postCardLock_live (h : lifeRefusal c.state = none) : postCardLock x d =
    if c.state = .locked ∧ c.locks.host = true then (d, answer .ok (lockBody c))
    else ((d.putCard j (hostLocked d.now c)).commit, answer .ok (lockBody (hostLocked d.now c))) := by
  simp only [postCardLock, hcard, h]

theorem postCardUnlock_refused {r : Result} (h : lifeRefusal c.state = some r) :
    postCardUnlock x d = (d, refuse r) := by
  simp only [postCardUnlock, hcard, h]

theorem postCardUnlock_live (h : lifeRefusal c.state = none) : postCardUnlock x d =
    if unlockLeaves c then (d, answer .ok (lockBody c))
    else ((d.putCard j (hostUnlocked d.now c)).commit, answer .ok (lockBody (hostUnlocked d.now c))) := by
  simp only [postCardUnlock, hcard, h]

theorem postCardRetire_refused (reason : RetireReason) {r : Result} (h : lifeRefusal c.state = some r) :
    postCardRetire x reason d = (d, refuse r) := by
  simp only [postCardRetire, hcard, h]

end Found

section Lost

variable {d : Draft} {x : Nat} (hcard : cardOf d.records x = none)
include hcard

theorem postCardLock_lost : postCardLock x d = (d, refuse .noCard) := by
  simp only [postCardLock, hcard]

theorem postCardUnlock_lost : postCardUnlock x d = (d, refuse .noCard) := by
  simp only [postCardUnlock, hcard]

theorem postCardReload_lost (m a : Nat) : postCardReload x m a d = (d, refuse .noCard) := by
  simp only [postCardReload, usableCard, hcard]

theorem postCardRetire_lost (reason : RetireReason) : postCardRetire x reason d = (d, refuse .noCard) := by
  simp only [postCardRetire, hcard]

theorem postCardTransfer_lost (y : Nat) : postCardTransfer x y d = (d, refuseTransfer .source .noCard) := by
  simp only [postCardTransfer, hcard]

theorem postCardPurge_lost : postCardPurge x d = (d, refuse .noCard) := by
  simp only [postCardPurge, hcard]

end Lost

/-! CARD_LOCK and CARD_UNLOCK -/

theorem lifeRefusal_of_live {st : CardState} (h : st = .active ∨ st = .locked) : lifeRefusal st = none := by
  rcases h with rfl | rfl
  · rfl
  · rfl

theorem lockBody_eq {c : Card} {st : CardState} {host velocity : Bool} (hstate : c.state = st)
    (hhost : c.locks.host = host) (hvelocity : c.locks.velocity = velocity) :
    lockBody c = field 1 (cardStateCode st) ++ field 1 (host.toNat + 2 * velocity.toNat) := by
  subst hstate hhost hvelocity
  rfl

/-- Settles O25, case by case of the card's state and its HOST cause. -/
theorem cardLockAddsHost : Obligations.CardLockAddsHost := by
  unfold Obligations.CardLockAddsHost
  intro s x q hg
  refine ⟨fun hnone => exec_judged hg rfl (postCardLock_lost hnone),
    fun j c hcard => ⟨fun hclosing => ?_, fun hretired => ?_, fun hgains => ?_, fun hlocked hhost => ?_⟩, rfl, rfl⟩
  · exact exec_judged hg rfl (postCardLock_refused hcard (congrArg lifeRefusal hclosing))
  · exact exec_judged hg rfl (postCardLock_refused hcard (congrArg lifeRefusal hretired))
  · have hlive : c.state = .active ∨ c.state = .locked := hgains.imp_right And.left
    have hopen : ¬ (c.state = .locked ∧ c.locks.host = true) := by
      rcases hgains with h | ⟨-, h⟩ <;> simp [h]
    have hjudged := postCardLock_live (d := startDraft s) hcard (lifeRefusal_of_live hlive)
    exact exec_judged hg rfl (hjudged.trans (if_neg hopen))
  · have hjudged := postCardLock_live (d := startDraft s) hcard (lifeRefusal_of_live (.inr hlocked))
    rw [if_pos ⟨hlocked, hhost⟩, lockBody_eq hlocked hhost rfl] at hjudged
    exact exec_judged hg rfl hjudged

/-- Settles O26, case by case of the card's state and its lock causes. -/
theorem cardUnlockRemovesHost : Obligations.CardUnlockRemovesHost := by
  unfold Obligations.CardUnlockRemovesHost
  intro s x q hg
  refine ⟨fun hnone => exec_judged hg rfl (postCardUnlock_lost hnone),
    fun j c hcard => ⟨fun hclosing => ?_, fun hretired => ?_, fun hactive => ?_, fun hlocked hhost hvelocity => ?_,
      fun hlocked hloses => ?_⟩, rfl, rfl⟩
  · exact exec_judged hg rfl (postCardUnlock_refused hcard (congrArg lifeRefusal hclosing))
  · exact exec_judged hg rfl (postCardUnlock_refused hcard (congrArg lifeRefusal hretired))
  · have hleaves : unlockLeaves c = true := by simp [unlockLeaves, hactive]
    have hjudged := postCardUnlock_live (d := startDraft s) hcard (lifeRefusal_of_live (.inl hactive))
    rw [if_pos hleaves, lockBody_eq hactive rfl rfl] at hjudged
    exact exec_judged hg rfl hjudged
  · have hleaves : unlockLeaves c = true := by simp [unlockLeaves, hhost, hvelocity]
    have hjudged := postCardUnlock_live (d := startDraft s) hcard (lifeRefusal_of_live (.inr hlocked))
    rw [if_pos hleaves, lockBody_eq hlocked hhost hvelocity] at hjudged
    exact exec_judged hg rfl hjudged
  · have hmoves : ¬ unlockLeaves c = true := by
      rcases hloses with h | h <;> simp [unlockLeaves, hlocked, h]
    have hjudged := postCardUnlock_live (d := startDraft s) hcard (lifeRefusal_of_live (.inr hlocked))
    have hbody : lockBody (hostUnlocked s.clock.value c) = field 1 (if c.locks.velocity then 1 else 0) ++
        field 1 (if c.locks.velocity then 2 else 0) := by
      rw [lockBody_eq (st := if c.locks.velocity then .locked else .active) rfl rfl rfl]
      cases hv : c.locks.velocity <;> simp [hostUnlocked, cardStateCode, hv]
    exact exec_judged hg rfl ((hjudged.trans (if_neg hmoves)).trans (by rw [← hbody]; rfl))

/-! Refusals in their order -/

theorem postCardIssue_refused {d : Draft} {x m a v : Nat} {r : Result}
    (h : firstFailure (salesChecks (merchantOf d.records m) ++ [(decide (a ≤ d.records.limits.value.cap), .capExceeded),
      (decide ((lookup d.records.directory x).slot = none), .cardExists),
      (decide ((lookup d.records.directory x).free ≠ none), .directoryFull)]) = some r) :
    postCardIssue x m a v d = (d, refuse r) := by
  rw [firstFailure_append, ← salesRefusal_eq] at h
  unfold postCardIssue
  cases hsales : salesRefusal (merchantOf d.records m) with
  | some r' =>
    rw [hsales, Option.some_or, Option.some.injEq] at h
    subst h
    rfl
  | none =>
    rw [hsales, Option.none_or] at h
    by_cases hcap : a ≤ d.records.limits.value.cap
    · cases hslot : (lookup d.records.directory x).slot with
      | some k => simp_all [overCap]
      | none => cases hfree : (lookup d.records.directory x).free <;> simp_all [overCap]
    · simp_all [overCap]

theorem postCardReload_refused {d : Draft} {x m a j : Nat} {c : Card} {r : Result}
    (hcard : cardOf d.records x = some (j, c))
    (h : firstFailure (spendableChecks d.now c ++ salesChecks (merchantOf d.records m) ++
      [(decide (c.available + c.held + a ≤ d.records.limits.value.cap), .capExceeded)]) = some r) :
    postCardReload x m a d = (d, refuse r) := by
  rw [firstFailure_append, firstFailure_append, ← salesRefusal_eq] at h
  unfold postCardReload
  rw [usableCard_eq, hcard]
  cases hspend : firstFailure (spendableChecks d.now c) with
  | some r' => simp_all
  | none =>
    cases hsales : salesRefusal (merchantOf d.records m) with
    | some r' => simp_all
    | none => simp_all [overCap]

/-- The checks of R43 on the source, for a request that names it as its target or not. -/
theorem postCardTransfer_source {d : Draft} {x y i : Nat} {c : Card} {r : Result}
    (hcard : cardOf d.records x = some (i, c))
    (h : firstFailure [(decide (y ≠ x), .badParameter), (decide (c.state ≠ .closing), .cardClosing),
      (decide (c.state ≠ .retired), .cardRetired), (decide (c.openHolds = 0), .holdsOpen)] = some r) :
    postCardTransfer x y d = (d, refuseTransfer .source r) := by
  unfold postCardTransfer
  rw [hcard]
  by_cases hsame : y = x
  · simp_all
  · cases hstate : c.state with
    | active => by_cases hopen : c.openHolds = 0 <;> simp_all [lifeRefusal]
    | locked => by_cases hopen : c.openHolds = 0 <;> simp_all [lifeRefusal]
    | closing => simp_all [lifeRefusal]
    | retired => simp_all [lifeRefusal]

/-- A source that passes the checks of R43 hands the judgement to the target. -/
theorem postCardTransfer_passed {d : Draft} {x y i : Nat} {c : Card}
    (hcard : cardOf d.records x = some (i, c)) (hne : y ≠ x) (hlive : lifeRefusal c.state = none)
    (hopen : c.openHolds = 0) :
    (∀ j t, cardOf d.records y = some (j, t) → postCardTransfer x y d = transferToCard i c j t d) ∧
    (cardOf d.records y = none →
      postCardTransfer x y d = transferToNew i c y (lookup d.records.directory y).free d) := by
  refine ⟨fun j t htarget => ?_, fun htarget => ?_⟩
  · simp only [postCardTransfer, hcard, hne, hlive, hopen, htarget, ne_eq, not_true_eq_false, if_false]
  · simp only [postCardTransfer, hcard, hne, hlive, hopen, htarget, ne_eq, not_true_eq_false, if_false]

theorem transferSource_passes {x y : Nat} {c : Card}
    (h : firstFailure [(decide (y ≠ x), .badParameter), (decide (c.state ≠ .closing), .cardClosing),
      (decide (c.state ≠ .retired), .cardRetired), (decide (c.openHolds = 0), .holdsOpen)] = none) :
    y ≠ x ∧ lifeRefusal c.state = none ∧ c.openHolds = 0 := by
  by_cases hne : y ≠ x
  · cases hstate : c.state <;> simp_all [lifeRefusal]
  · simp_all

theorem transferToCard_refused {d : Draft} {i j : Nat} {c t : Card} {r : Result}
    (h : firstFailure [(decide (t.state ≠ .locked), .cardLocked), (decide (t.state ≠ .closing), .cardClosing),
      (decide (t.state ≠ .retired), .cardRetired),
      (decide (t.available + t.held + c.available ≤ d.records.limits.value.cap), .capExceeded)] = some r) :
    transferToCard i c j t d = (d, refuseTransfer .target r) := by
  unfold transferToCard
  cases hstate : t.state <;> simp_all [stateRefusal, overCap]

theorem transferToNew_refused {d : Draft} {i y : Nat} {c : Card} {free : Option Nat} {r : Result}
    (h : firstFailure [(decide (free ≠ none), .directoryFull),
      (decide (c.available ≤ d.records.limits.value.cap), .capExceeded)] = some r) :
    transferToNew i c y free d = (d, refuseTransfer .target r) := by
  unfold transferToNew
  cases free with
  | none => simp_all
  | some k => simp_all [overCap]

/-- Settles O30, request by request, from what each judgement answers where a check of its table fails. -/
theorem cardRefusalsInOrder : Obligations.CardRefusalsInOrder := by
  unfold Obligations.CardRefusalsInOrder
  intro s x q now cap answered
  refine ⟨fun m a v r hg h => exec_judged hg rfl (postCardIssue_refused h), fun m a hg => ⟨fun hnone => ?_, ?_⟩,
    fun reason hg => ⟨fun hnone => ?_, fun j c hcard => ⟨fun hstate => ?_, fun hstate => ?_⟩⟩,
    fun y hg => ⟨fun hnone => ?_, fun i c hcard => ⟨fun r h => ?_, fun j t r hsource htarget h => ?_,
      fun r hsource htarget h => ?_⟩⟩, fun hg hnone => ?_⟩
  · exact exec_judged hg rfl (postCardReload_lost hnone m a)
  · exact fun j c r hcard h => exec_judged hg rfl (postCardReload_refused hcard h)
  · exact exec_judged hg rfl (postCardRetire_lost hnone reason)
  · exact exec_judged hg rfl (postCardRetire_refused hcard reason (congrArg lifeRefusal hstate))
  · exact exec_judged hg rfl (postCardRetire_refused hcard reason (congrArg lifeRefusal hstate))
  · exact exec_judged hg rfl (postCardTransfer_lost hnone y)
  · exact exec_judged hg rfl (postCardTransfer_source hcard h)
  · obtain ⟨hne, hlive, hopen⟩ := transferSource_passes hsource
    obtain ⟨hfound, -⟩ := postCardTransfer_passed (d := startDraft s) hcard hne hlive hopen
    exact exec_judged hg rfl ((hfound j t htarget).trans (transferToCard_refused h))
  · obtain ⟨hne, hlive, hopen⟩ := transferSource_passes hsource
    obtain ⟨-, hnew⟩ := postCardTransfer_passed (d := startDraft s) hcard hne hlive hopen
    exact exec_judged hg rfl ((hnew htarget).trans (transferToNew_refused h))
  · exact exec_judged hg rfl (postCardPurge_lost hnone)

end Sys2Proof.Machine
end

section
/-! PROOFS. VELOCITY on a spend, and the merchant conditions evaluated on open entries (R38, R74, R75, R150, R152, R155). -/

namespace Sys2Proof.Machine

/-! VELOCITY -/

theorem countSpend_eq (l : MonitorLimits) (now : Nat) (c : Card) :
    let opened := decide (l.velocityWindow ≤ now - c.windowStart)
    countSpend l now c = { c with
      windowStart := if opened then now else c.windowStart
      velocityCount := if opened then 1 else min (c.velocityCount + 1) 255 } := by
  unfold countSpend
  by_cases h : l.velocityWindow ≤ now - c.windowStart <;> simp [h]

/-- VELOCITY latched, or not: with operate on the cause is added, and only an ACTIVE card changes its state (R38, R155). -/
theorem latchVelocity_if (latches operate : Bool) (c : Card) :
    (if latches then latchVelocity operate c else c) = { c with
      velocityLatched := c.velocityLatched || latches
      locks := { c.locks with velocity := c.locks.velocity || latches && operate }
      state := if (latches && operate) = true ∧ c.state = .active then .locked else c.state } := by
  cases latches with
  | false => simp
  | true =>
    cases operate with
    | false => simp [latchVelocity]
    | true => cases hstate : c.state <;> simp [latchVelocity, hstate]

theorem spendCard_eq (l : Limits) (now : Nat) (c : Card) :
    let counted := countSpend l.monitor now c
    let latches := velocityLatches l.monitor now counted
    let locks := latches && inSet l.device.operate .velocity
    spendCard l now c = { counted with
      velocityLatched := counted.velocityLatched || latches
      locks := { counted.locks with velocity := counted.locks.velocity || locks }
      state := if locks = true ∧ counted.state = .active then .locked else counted.state } :=
  latchVelocity_if _ _ _

/-! The merchant conditions -/

/-- An evaluation moves merchant records, the Qualification List and the events, and nothing else. -/
def BesideMerchants (d e : Draft) : Prop :=
  e = { d with
    records := { d.records with merchants := e.records.merchants }, qual := e.qual, events := e.events }

theorem BesideMerchants.refl (d : Draft) : BesideMerchants d d := rfl

theorem BesideMerchants.trans {d e f : Draft} (h : BesideMerchants d e) (k : BesideMerchants e f) :
    BesideMerchants d f := by
  unfold BesideMerchants at *
  rw [k, h]

theorem latchDeficit_beside (d : Draft) (m : Nat) : BesideMerchants d (d.latchDeficit m) := rfl

theorem latchRefund_beside (d : Draft) (m : Nat) : BesideMerchants d (d.latchRefund m) := rfl

theorem evalDeficit_beside (d : Draft) (m : Nat) : BesideMerchants d (d.evalDeficit m) := by
  unfold Draft.evalDeficit
  split
  · exact latchDeficit_beside d m
  · exact .refl d

theorem evalRefund_beside (d : Draft) (m : Nat) : BesideMerchants d (d.evalRefund m) := by
  unfold Draft.evalRefund
  split
  · split
    · exact .refl d
    · split
      · exact .refl d
      · split
        · exact latchRefund_beside d m
        · rfl
  · rfl

theorem evalMerchant_beside (d : Draft) (m : Nat) : BesideMerchants d (d.evalMerchant m) :=
  (evalDeficit_beside d m).trans (evalRefund_beside _ m)

/-- The Qualification List after an evaluation of REFUND_RATIO, by the table of R152. -/
theorem evalRefund_qual (d : Draft) (m : Nat) :
    let live := refundLive d.records.limits.monitor (openEntry d.records m)
    let latched := (merchantOf d.records m).refundLatched
    let time := d.records.limits.monitor.qualTime
    (live = false → (d.evalRefund m).qual = eraseQual d.qual m) ∧
    (live = true → latched = false → isPending d.qual m = false → 0 < time →
      (d.evalRefund m).qual = insertQual { merchant := m, due := addTime d.now time } d.qual) ∧
    (live = true → (latched = true ∨ isPending d.qual m = true ∨ time = 0) → (d.evalRefund m).qual = d.qual) := by
  refine ⟨fun hlive => ?_, fun hlive hlatched hpending htime => ?_, fun hlive hstands => ?_⟩
  · simp [Draft.evalRefund, hlive]
  · simp [Draft.evalRefund, hlive, hlatched, hpending, Nat.ne_of_gt htime]
  · unfold Draft.evalRefund
    rw [if_pos hlive]
    split
    · rfl
    · split
      · rfl
      · next hlatched hpending =>
        have htime := (hstands.resolve_left hlatched).resolve_left hpending
        rw [if_pos htime, Draft.latchRefund_qual]

theorem openEntry_evalDeficit (d : Draft) (m k : Nat) :
    openEntry (d.evalDeficit m).records k = openEntry d.records k := by
  rw [openEntry, openEntry, Draft.evalDeficit_openBank]

/-- CONDITION_LATCHED is set once, whichever of two conditions latches. -/
theorem latchedBits_or (a b : Bool) :
    (if a then 0x40#8 else 0x00#8) ||| (if b then 0x40#8 else 0x00#8) = if a || b then 0x40#8 else 0x00#8 := by
  cases a with
  | false => simp
  | true => cases b with
    | false => rfl
    | true => rfl

/-- What an evaluation of both conditions does to the merchant and to the events, with DEFICIT judged before
REFUND_RATIO. -/
theorem evalMerchant_spec (d : Draft) (m : Nat) :
    let x := merchantOf d.records m
    let e := openEntry d.records m
    let l := d.records.limits
    let deficit := deficitLive l.monitor e && !x.deficitLatched
    let latches := refundLive l.monitor e && !x.refundLatched && !isPending d.qual m && decide (l.monitor.qualTime = 0)
    (∀ k, merchantOf (d.evalMerchant m).records k =
      if k = m then
        { x with
          deficitLatched := x.deficitLatched || deficit
          salesBlocked := x.salesBlocked || deficit && inSet l.device.operate .deficit
          refundLatched := x.refundLatched || latches
          refundsBlocked := x.refundsBlocked || latches && inSet l.device.operate .refundRatio }
      else merchantOf d.records k) ∧
    (d.evalMerchant m).events = d.events ||| (if deficit || latches then 0x40#8 else 0x00#8) := by
  obtain ⟨hmerchant, hevents⟩ := Draft.evalDeficit_spec d m
  obtain ⟨hmerchant', hevents'⟩ := Draft.evalRefund_spec (d.evalDeficit m) m
  simp only [hmerchant m, if_true, openEntry_evalDeficit, Draft.evalDeficit_limits, Draft.evalDeficit_qual]
    at hmerchant' hevents'
  refine ⟨fun k => ?_, ?_⟩
  · rw [Draft.evalMerchant, hmerchant' k]
    split
    · rfl
    · next hk => rw [hmerchant k, if_neg hk]
  · rw [Draft.evalMerchant, hevents', hevents, BitVec.or_assoc]
    exact congrArg (d.events ||| ·) (latchedBits_or _ _)

/-- Settles O40: a spend counts and then latches on the card it counted, and an evaluation is DEFICIT and then
REFUND_RATIO. -/
theorem conditionsEvaluated : Obligations.ConditionsEvaluated := by
  unfold Obligations.ConditionsEvaluated
  refine ⟨fun l now c => ?_, fun d m => ?_⟩
  · intro opened count start latches locks
    have hlatches : velocityLatches l.monitor now (countSpend l.monitor now c) = latches := by rw [countSpend_eq]; rfl
    refine ⟨?_, ?_⟩
    · rw [spendCard_eq]
      simp only [hlatches]
      rw [countSpend_eq]
      rfl
    · rw [spendBit, hlatches]
      rfl
  · intro x e l deficit ratio pending latches d'
    obtain ⟨hmerchant, hevents⟩ := evalMerchant_spec d m
    obtain ⟨herased, hinserted, hkept⟩ := evalRefund_qual (d.evalDeficit m) m
    obtain ⟨hflags, -⟩ := Draft.evalDeficit_spec d m
    have hlatched : (merchantOf (d.evalDeficit m).records m).refundLatched = x.refundLatched := by
      rw [hflags m, if_pos rfl]
    simp only [openEntry_evalDeficit, Draft.evalDeficit_limits, Draft.evalDeficit_qual, Draft.evalDeficit_now, hlatched]
      at herased hinserted hkept
    exact ⟨(hmerchant m).trans (if_pos rfl), fun k hk => (hmerchant k).trans (if_neg hk),
      congrArg Draft.records (evalMerchant_beside d m), hevents, herased, hinserted, hkept,
      Draft.evalMerchant_dirHigh d m, Draft.evalMerchant_holdsHigh d m, Draft.evalMerchant_now d m⟩

/-! Several merchants, one after the other -/

theorem evalMerchants_beside (ms : List Nat) (d : Draft) : BesideMerchants d (ms.foldl Draft.evalMerchant d) := by
  induction ms generalizing d with
  | nil => exact .refl d
  | cons m rest ih => exact (evalMerchant_beside d m).trans (ih _)

theorem SameJudged.evalMerchants {d e : Draft} (h : SameJudged d e) (ms : List Nat) :
    SameJudged (ms.foldl Draft.evalMerchant d) (ms.foldl Draft.evalMerchant e) := by
  induction ms generalizing d e with
  | nil => exact h
  | cons m rest ih => exact ih (h.evalMerchant m)

/-- Evaluations of `ms` move flags and blocks of these merchants only. -/
theorem evalMerchants_merchant (ms : List Nat) (d : Draft) (k : Nat) :
    let x := merchantOf d.records k
    let y := merchantOf (ms.foldl Draft.evalMerchant d).records k
    y.state = x.state ∧ y.settings = x.settings ∧ y.openHolds = x.openHolds ∧ y.withdrawnIn = x.withdrawnIn ∧
      (k ∉ ms → y = x) := by
  induction ms generalizing d with
  | nil => exact ⟨rfl, rfl, rfl, rfl, fun _ => rfl⟩
  | cons m rest ih =>
    obtain ⟨hstate, hsettings, hopen, hwithdrawn, hother⟩ := Draft.evalMerchant_merchant d m k
    obtain ⟨hstate', hsettings', hopen', hwithdrawn', hother'⟩ := ih (d.evalMerchant m)
    refine ⟨hstate'.trans hstate, hsettings'.trans hsettings, hopen'.trans hopen, hwithdrawn'.trans hwithdrawn, ?_⟩
    intro hk
    obtain ⟨hne, hrest⟩ := not_or.1 (List.mem_cons.not.1 hk)
    exact (hother' hrest).trans (hother hne)

theorem evalMerchants_qual (ms : List Nat) (d : Draft) (k : Qual) (h : k.merchant ∉ ms) :
    k ∈ (ms.foldl Draft.evalMerchant d).qual ↔ k ∈ d.qual := by
  induction ms generalizing d with
  | nil => exact Iff.rfl
  | cons m rest ih =>
    obtain ⟨hne, hrest⟩ := not_or.1 (List.mem_cons.not.1 h)
    exact (ih (d.evalMerchant m) hrest).trans (Draft.evalMerchant_qual_other d m k hne)

end Sys2Proof.Machine
end

section
/-! PROOFS. The end of a posting that writes a card and moves value, and CARD_RELOAD, REFUND, CARD_RETIRE and CARD_TRANSFER in
full (R35, R39, R41, R43, R44, R45, R73, R152). -/

namespace Sys2Proof.Machine

/-! The end of a posting that evaluates merchants -/

/-- The last changes of a value posting: the merchants `ms` evaluated one after the other, then the floor. -/
def Draft.conclude (b : Draft) (ms : List Nat) : Draft := (ms.foldl Draft.evalMerchant b).commit

theorem Draft.conclude_eq (b : Draft) (ms : List Nat) : b.conclude ms = { b with
    records := { b.records with
      merchants := (b.conclude ms).records.merchants, totals := { b.records.totals with floor := b.now } }
    qual := (b.conclude ms).qual
    events := (b.conclude ms).events } := by
  have hbeside := evalMerchants_beside ms b
  unfold BesideMerchants at hbeside
  exact congrArg Draft.commit hbeside

theorem conclude_evaluated (s : State) (r : Records) (ms : List Nat) :
    Evaluated s ((changed s r).conclude ms) r.merchants ms 0x00#8 := by
  have hrecords := congrArg Draft.records ((changed s r).conclude_eq ms)
  have hstart : SameJudged (changed s r)
      { startDraft s with records := { ((changed s r).conclude ms).records with merchants := r.merchants } } :=
    { merchants := rfl
      limits := (congrArg Records.limits hrecords).symm
      entries := (congrArg (fun r => r.openBank.entries) hrecords).symm
      qual := rfl
      events := rfl
      now := rfl }
  have hsame := hstart.evalMerchants ms
  exact ⟨hsame.merchants, hsame.qual, hsame.events.trans (BitVec.or_zero).symm⟩

/-- The changes `b` of a posting granted in `s` that writes a card and moves value: the records `r` with the card `c` in slot
`j`, and with the open bank and the totals moved, of the entries none but those of `ms`. -/
structure MovesCard (s : State) (r : Records) (j : Nat) (c : Card) (ms : List Nat) (b : Draft) : Prop where
  change : b = changed s
    { r with cards := tableInsert r.cards j c, openBank := b.records.openBank, totals := b.records.totals }
  periods : PeriodsKept r b.records
  entries : EntriesKept r b.records ms

/-- What such a posting leaves, once its merchants are evaluated and the floor is written. -/
structure CardMoved (s : State) (r : Records) (j : Nat) (c : Card) (ms : List Nat) (b d : Draft) : Prop where
  card : tableFind d.records.cards j = some c
  openBank : d.records.openBank = b.records.openBank
  totals : d.records.totals = { b.records.totals with floor := s.clock.value }
  counts : CountsKept r d.records
  holds : HoldsKept r d.records
  directory : DirectoryKept r d.records
  flags : FlagsKept s d
  evaluated : Evaluated s d r.merchants ms 0x00#8
  cards : CardsKept r d.records [j]
  entries : EntriesKept r d.records ms
  merchants : MerchantsKept r d.records ms
  periods : PeriodsKept r d.records
  qual : QualKept s d ms
  plain : PlainDraft s d

section Moves

variable {s : State} {r : Records} {j : Nat} {c : Card} {ms : List Nat} {b : Draft} (h : MovesCard s r j c ms b)
include h

theorem MovesCard.merchants : b.records.merchants = r.merchants := by rw [h.change]; rfl

theorem MovesCard.conclude_records : (b.conclude ms).records = { r with
    cards := tableInsert r.cards j c
    merchants := (b.conclude ms).records.merchants
    openBank := b.records.openBank
    totals := { b.records.totals with floor := s.clock.value } } := by
  have hrecords := congrArg Draft.records (b.conclude_eq ms)
  have hchange := congrArg Draft.records h.change
  have hnow : b.now = s.clock.value := congrArg Draft.now h.change
  rw [hnow] at hrecords
  refine hrecords.trans ?_
  rw [hchange]
  rfl

theorem MovesCard.conclude_merchant (k : Nat) :
    let x := merchantOf r k
    let y := merchantOf (b.conclude ms).records k
    y.state = x.state ∧ y.settings = x.settings ∧ y.openHolds = x.openHolds ∧ y.withdrawnIn = x.withdrawnIn ∧
      (k ∉ ms → y = x) := by
  have hmerchants := evalMerchants_merchant ms b k
  have hfrom : merchantOf b.records k = merchantOf r k := by rw [merchantOf, merchantOf, h.merchants]
  rw [hfrom] at hmerchants
  exact hmerchants

theorem MovesCard.conclude : CardMoved s r j c ms b (b.conclude ms) := by
  have heq := b.conclude_eq ms
  have hrecords := h.conclude_records
  have hmerchant := h.conclude_merchant
  have hstart : b.qual = s.qual ∧ b.dirHigh = s.dirHigh ∧ b.holdsHigh = s.holdsHigh ∧ PlainDraft s b := by
    rw [h.change]; exact ⟨rfl, rfl, rfl, rfl, rfl, rfl⟩
  obtain ⟨hqual, hdirHigh, hholdsHigh, hnow, halarm, hfinish⟩ := hstart
  have hbank : (b.conclude ms).records.openBank = b.records.openBank := (congrArg Records.openBank hrecords :)
  have hevaluated := conclude_evaluated s
    { r with cards := tableInsert r.cards j c, openBank := b.records.openBank, totals := b.records.totals } ms
  rw [← h.change] at hevaluated
  obtain ⟨hclosing, hstagedA, hstagedB, hvalidA, hvalidB, hlimits, hheader, hperiod, hdeferred⟩ := h.periods
  refine ⟨?card, hbank, (congrArg Records.totals hrecords :), fun k => ?counts, ?holds, ?directory, ?flags, hevaluated,
    ?cards, ?entries, ?merchants, ?periods, ?qual, ?plain⟩
  case card => rw [hrecords]; exact tableFind_insert_self _ _ _
  case counts =>
    obtain ⟨-, -, hopen, -, -⟩ := hmerchant k
    exact hopen
  case holds => exact ⟨(congrArg Records.holds hrecords :), (congrArg Records.holdIdCounter hrecords :)⟩
  case directory => exact ⟨(congrArg Records.directory hrecords :), (congrArg Records.occupancy hrecords :)⟩
  case flags =>
    exact ⟨(congrArg Draft.dirHigh heq).trans hdirHigh, (congrArg Draft.holdsHigh heq).trans hholdsHigh⟩
  case cards => intro k hk; rw [hrecords]; exact tableFind_insert_ne _ _ (List.ne_of_not_mem_cons hk)
  case entries => intro k hk; rw [← h.entries k hk, openEntry, openEntry, hbank]
  case merchants =>
    refine ⟨fun k hk => ?_, fun k => ?_⟩
    · obtain ⟨-, -, -, -, hother⟩ := hmerchant k
      exact hother hk
    · obtain ⟨hstate, hsettings, -, hwithdrawn, -⟩ := hmerchant k
      exact ⟨hstate, hsettings, hwithdrawn⟩
  case periods =>
    refine ⟨(congrArg Records.closingBank hrecords :), (congrArg Records.stagedA hrecords :),
      (congrArg Records.stagedB hrecords :), (congrArg Records.stagedAValid hrecords :),
      (congrArg Records.stagedBValid hrecords :), (congrArg Records.limits hrecords :), ?_,
      (congrArg (fun r => r.totals.openPeriod) hrecords).trans hperiod,
      (congrArg (fun r => r.totals.closeDeferred) hrecords).trans hdeferred⟩
    rw [hbank]; exact hheader
  case qual => intro k hk; rw [← hqual]; exact evalMerchants_qual ms b k hk
  case plain =>
    exact ⟨(congrArg Draft.now heq).trans hnow, (congrArg Draft.clearsAlarm heq).trans halarm,
      (congrArg Draft.finish heq).trans hfinish⟩

end Moves

theorem CardMoved.valueKept {s : State} {j : Nat} {c : Card} {ms : List Nat} {b d : Draft}
    (h : CardMoved s s.records j c ms b d) : ValueKept s d [j] ms :=
  ⟨h.cards, h.entries, h.merchants, h.periods, h.qual, h.plain⟩

/-! CARD_RELOAD and REFUND -/

theorem usableCard_of_spendable {s : State} {x j : Nat} {c : Card} (hcard : cardOf s.records x = some (j, c))
    (hspend : Spendable s c) : usableCard (startDraft s) x = .ok (j, c) := by
  obtain ⟨hactive, hvalid⟩ := hspend
  have hlive : isExpired s.clock.value c = false := by rw [isExpired_eq]; simpa using hvalid
  simp only [usableCard, startDraft_records, hcard, hactive, stateRefusal, startDraft_now, hlive]
  rfl

theorem refundRefusal_none {x : Merchant} (hstate : x.state = .enrolled)
    (hpermitted : x.settings.refundsPermitted = true) (hblocked : x.refundsBlocked = false) : refundRefusal x = none := by
  simp [refundRefusal, tradingRefusal, hstate, hpermitted, hblocked]

theorem overCap_false {l : Limits} {carried x : Nat} (h : carried + x ≤ l.value.cap) : overCap l carried x = false := by
  simp only [overCap, decide_eq_false_iff_not]; omega

/-- The changes of a credit before its merchant is evaluated. -/
def creditBase (s : State) (j : Nat) (c : Card) (m : Nat) (acc : Accum) (a : Nat) : Draft :=
  (((startDraft s).putCard j { c with available := c.available + a, lastPostingAt := s.clock.value }).post m acc
    a).addOutstanding a

theorem creditChanges_eq (s : State) (j : Nat) (c : Card) (m : Nat) (acc : Accum) (a : Nat) :
    creditChanges (startDraft s) j c m acc a = (creditBase s j c m acc a).conclude [m] := rfl

theorem creditBase_moves (s : State) (j : Nat) (c : Card) (m : Nat) (acc : Accum) (a : Nat) :
    MovesCard s s.records j { c with available := c.available + a, lastPostingAt := s.clock.value } [m]
      (creditBase s j c m acc a) where
  change := rfl
  periods := ⟨rfl, rfl, rfl, rfl, rfl, rfl, rfl, rfl, rfl⟩
  entries := fun _ hk => tableGet_put_ne _ _ _ (List.ne_of_not_mem_cons hk)

/-- Settles O24: both credits are one change of the card, an accumulator and outstanding, concluded on the merchant. -/
theorem reloadAndRefundCreditTheCard : Obligations.ReloadAndRefundCreditTheCard := by
  unfold Obligations.ReloadAndRefundCreditTheCard
  intro s x m a q j c hcard hspend htrades hcap now e o credited told
  have husable := usableCard_of_spendable hcard hspend
  have hunder := overCap_false hcap
  have hcredited : ∀ acc, credited (creditChanges (startDraft s) j c m acc a)
      (accumSet e (satPos (accumGet e acc + a)) acc) (overflows (accumGet e acc + a)) := by
    intro acc
    have moved := (creditBase_moves s j c m acc a).conclude
    rw [creditChanges_eq]
    have hbank := moved.openBank
    refine ⟨moved.card, ?entry, moved.totals, ?saturated, ⟨(congrArg Totals.retiredValue moved.totals :), ?retired⟩,
      moved.counts, moved.holds, moved.directory, moved.flags, moved.evaluated, moved.valueKept⟩
    case entry => rw [openEntry, hbank]; exact tableGet_put_self _ _ _ _
    case saturated => rw [SaturatedBy, hbank, ← Bool.or_assoc]; rfl
    case retired => rw [hbank]; rfl
  refine ⟨fun hg hpermitted hblocked => ?_, fun hg hpermitted hblocked => ?_⟩
  · refine ⟨_, exec_judged hg rfl ?_, hcredited .s⟩
    simp only [postCardReload, husable, startDraft_records, salesRefusal_none htrades hpermitted hblocked, hunder]
    rfl
  · refine ⟨_, exec_judged hg rfl ?_, hcredited .f⟩
    simp only [postRefund, husable, startDraft_records, refundRefusal_none htrades hpermitted hblocked, hunder]
    rfl

/-! A retirement finalised -/

/-- The merchants whose open entry a finalisation changes (R41, R152). -/
def finalisedMerchants : RetireReason → List Nat
  | .cashOut => [0]
  | .closed => []
  | .expired => []
  | .transferred => []

theorem evalFinalised_eq (d : Draft) (reason : RetireReason) :
    d.evalFinalised reason = (finalisedMerchants reason).foldl Draft.evalMerchant d := by
  cases reason <;> rfl

section Finalised

variable (b : Draft) (j : Nat) (c : Card)

theorem finalise_outstanding {reason : RetireReason} (h : reason ≠ .transferred) :
    (b.finalise j c reason).records.totals.outstanding = satPos (b.records.totals.outstanding - c.available) := by
  cases reason with
  | cashOut => rfl
  | closed => rfl
  | expired => rfl
  | transferred => exact absurd rfl h

/-- A finalisation moves only merchant 0's entry, and that for a cash-out only. -/
theorem finalise_entries (reason : RetireReason) (k : Nat) (hk : k ∉ finalisedMerchants reason) :
    openEntry (b.finalise j c reason).records k = openEntry b.records k := by
  cases reason with
  | cashOut => exact tableGet_put_ne _ _ _ (List.ne_of_not_mem_cons hk)
  | closed => rfl
  | expired => rfl
  | transferred => rfl

theorem finalise_periods (reason : RetireReason) : PeriodsKept b.records (b.finalise j c reason).records := by
  cases reason <;> exact ⟨rfl, rfl, rfl, rfl, rfl, rfl, rfl, rfl, rfl⟩

/-- The value of a cash-out goes into merchant 0's K (R41). -/
theorem finalise_cashOut :
    let r := b.records
    let r' := (b.finalise j c .cashOut).records
    openEntry r' 0 = raiseEntry (openEntry r 0) .k c.available ∧ RetiredKept r r' ∧
    r'.openBank.saturated = (r.openBank.saturated || overflows ((openEntry r 0).k + c.available) ||
      overflows (r.totals.outstanding - c.available)) :=
  ⟨tableGet_put_self _ _ _ _, ⟨rfl, rfl⟩, rfl⟩

/-- The value of a card retired as CLOSED or EXPIRED goes into retired value and retired in period (R41). -/
theorem finalise_retired {reason : RetireReason} (h : reason ≠ .cashOut) (ht : reason ≠ .transferred) :
    let r := b.records
    let r' := (b.finalise j c reason).records
    r'.totals.retiredValue = satPos (r.totals.retiredValue + c.available) ∧
    r'.openBank.retiredInPeriod = satPos (r.openBank.retiredInPeriod + c.available) ∧
    r'.openBank.saturated = (r.openBank.saturated || (overflows (r.totals.retiredValue + c.available) ||
      overflows (r.openBank.retiredInPeriod + c.available)) || overflows (r.totals.outstanding - c.available)) := by
  cases reason with
  | cashOut => exact absurd rfl h
  | closed => exact ⟨rfl, rfl, rfl⟩
  | expired => exact ⟨rfl, rfl, rfl⟩
  | transferred => exact absurd rfl ht

end Finalised

theorem periodsKept_trans {r1 r2 r3 : Records} (h : PeriodsKept r1 r2) (k : PeriodsKept r2 r3) : PeriodsKept r1 r3 := by
  obtain ⟨hclosing, hstagedA, hstagedB, hvalidA, hvalidB, hlimits, hheader, hperiod, hdeferred⟩ := h
  obtain ⟨kclosing, kstagedA, kstagedB, kvalidA, kvalidB, klimits, kheader, kperiod, kdeferred⟩ := k
  refine ⟨kclosing.trans hclosing, kstagedA.trans hstagedA, kstagedB.trans hstagedB, kvalidA.trans hvalidA,
    kvalidB.trans hvalidB, klimits.trans hlimits, ?_, kperiod.trans hperiod, kdeferred.trans hdeferred⟩
  rw [hheader] at kheader
  exact kheader

/-- A finalisation after changes that moved the open bank and the totals of `r`, and of its entries none but those of
`ms`. -/
theorem finalise_moves {s : State} {r : Records} {bank : Bank} {totals : Totals} {ms : List Nat}
    (hperiods : PeriodsKept r { r with openBank := bank, totals := totals })
    (hentries : EntriesKept r { r with openBank := bank, totals := totals } ms) (j : Nat) (c : Card)
    (reason : RetireReason) :
    MovesCard s r j (retiredCard s.clock.value reason c) (ms ++ finalisedMerchants reason)
      ((changed s { r with openBank := bank, totals := totals }).finalise j c reason) where
  change := by cases reason <;> rfl
  periods := periodsKept_trans hperiods (finalise_periods _ j c reason)
  entries := fun k hk =>
    have ⟨hms, hlast⟩ := not_or.1 (List.mem_append.not.1 hk)
    (finalise_entries _ j c reason k hlast).trans (hentries k hms)

/-! CARD_RETIRE -/

theorem postCardRetire_live {d : Draft} {x j : Nat} {c : Card} (hcard : cardOf d.records x = some (j, c))
    (h : lifeRefusal c.state = none) (reason : RetireReason) : postCardRetire x reason d =
      if c.openHolds = 0 then
        ((d.finalise j c reason).conclude (finalisedMerchants reason),
          answer .ok (field 4 c.available ++ field 4 c.held ++ field 1 c.openHolds))
      else
        ((d.putCard j (closingCard d.now reason c)).commit,
          answer .deferred (field 4 c.available ++ field 4 c.held ++ field 1 c.openHolds)) := by
  simp only [postCardRetire, hcard, h, evalFinalised_eq]
  rfl

/-- Settles O27: with holds open the card is written; without, the finalisation is concluded on the merchant whose entry it
moves. -/
theorem cardRetireDefersOrFinalises : Obligations.CardRetireDefersOrFinalises := by
  unfold Obligations.CardRetireDefersOrFinalises
  intro s x reason q j c hg hcard hlive now o told closed
  have hjudged := postCardRetire_live (d := startDraft s) hcard (lifeRefusal_of_live hlive) reason
  have moved : CardMoved s s.records j (retiredCard now reason c) (finalisedMerchants reason)
      ((startDraft s).finalise j c reason) (((startDraft s).finalise j c reason).conclude (finalisedMerchants reason)) :=
    (finalise_moves (ms := []) ⟨rfl, rfl, rfl, rfl, rfl, rfl, rfl, rfl, rfl⟩ (fun _ _ => rfl) j c reason).conclude
  have hbank := moved.openBank
  have hclosed : reason ≠ .transferred →
      closed (((startDraft s).finalise j c reason).conclude (finalisedMerchants reason)) := fun hreason =>
    ⟨moved.card, (congrArg Totals.outstanding moved.totals).trans (finalise_outstanding _ j c hreason),
      (congrArg Totals.floor moved.totals :), moved.counts, moved.holds, moved.directory, moved.flags⟩
  refine ⟨fun hopen => ?_, fun hopen hreason => ?_, fun hopen hreason => ?_⟩
  · exact exec_judged hg rfl (hjudged.trans (if_neg (Nat.ne_of_gt hopen)))
  · subst hreason
    obtain ⟨hentry, ⟨hvalue, hperiod⟩, hsaturated⟩ := finalise_cashOut (startDraft s) j c
    refine ⟨_, exec_judged hg rfl (hjudged.trans (if_pos hopen)), hclosed (by decide), ?entry, ⟨?value, ?period⟩,
      ?saturated, moved.evaluated, moved.valueKept⟩
    case entry => rw [openEntry, hbank]; exact hentry
    case value => exact (congrArg Totals.retiredValue moved.totals).trans hvalue
    case period => rw [hbank]; exact hperiod
    case saturated => rw [SaturatedBy, hbank, hsaturated, Bool.or_assoc]; rfl
  · have hnot : reason ≠ .cashOut ∧ reason ≠ .transferred := by rcases hreason with rfl | rfl <;> decide
    have hnone : finalisedMerchants reason = [] := by rcases hreason with rfl | rfl <;> rfl
    obtain ⟨hvalue, hperiod, hsaturated⟩ := finalise_retired (startDraft s) j c hnot.1 hnot.2
    have hclosed := hclosed hnot.2
    rw [hnone] at hjudged hbank hclosed moved
    refine ⟨_, exec_judged hg rfl (hjudged.trans (if_pos hopen)), hclosed, ?value, ?period, ?saturated, moved.evaluated,
      moved.valueKept⟩
    case value => exact (congrArg Totals.retiredValue moved.totals).trans hvalue
    case period => rw [hbank]; exact hperiod
    case saturated => rw [SaturatedBy, hbank, hsaturated, Bool.or_assoc]; rfl

/-! CARD_TRANSFER -/

theorem transferToCard_approved {d : Draft} {i j : Nat} {c t : Card} (hactive : t.state = .active)
    (hcap : t.available + t.held + c.available ≤ d.records.limits.value.cap) :
    transferToCard i c j t d =
      (((d.putCard j { t with available := t.available + c.available, lastPostingAt := d.now }).putCard i
          (retiredCard d.now .transferred c)).commit,
        answer .ok (transferBody c.available j (t.available + c.available) false)) := by
  simp only [transferToCard, hactive, stateRefusal, overCap_false hcap]
  rfl

theorem transferToNew_approved {d : Draft} {i j y : Nat} {c : Card} (hcap : c.available ≤ d.records.limits.value.cap) :
    transferToNew i c y (some j) d =
      (((d.placeCard j (transferTarget y c d.now)).putCard i (retiredCard d.now .transferred c)).evalDirHigh.commit,
        answer .ok (transferBody c.available j c.available true)) := by
  have hunder : overCap d.records.limits 0 c.available = false := overCap_false (by omega)
  simp only [transferToNew, hunder]
  rfl

/-- Settles O28: an existing target and the source are two writes; a new target is placed, and DIRECTORY_HIGH is
evaluated on the count that placing it raised. -/
theorem cardTransferMovesTheValue : Obligations.CardTransferMovesTheValue := by
  unfold Obligations.CardTransferMovesTheValue
  intro s x y q i c hg hcard hne hlive hopen now retired
  obtain ⟨hfound, hnew⟩ := postCardTransfer_passed (d := startDraft s) hcard hne.symm (lifeRefusal_of_live hlive) hopen
  refine ⟨fun j t htarget hactive _ hcap => ?_, fun j htarget hfree hji hcap => ?_⟩
  · exact exec_judged hg rfl ((hfound j t htarget).trans (transferToCard_approved hactive hcap))
  · have hjudged := hnew htarget
    have hplaced := slotState_put s.records.directory j (.used y)
    rw [startDraft_records, hfree] at hjudged
    refine ⟨_, exec_judged hg rfl (hjudged.trans (transferToNew_approved hcap)), tableFind_insert_self _ _ _, ?target,
      ?slot, ?others, rfl, rfl, ⟨rfl, rfl, ?events⟩, rfl, rfl, ⟨rfl, rfl⟩, rfl, rfl, ?cards, fun _ _ => rfl,
      ⟨fun _ _ => rfl, fun _ => ⟨rfl, rfl, rfl⟩⟩, ⟨rfl, rfl, rfl, rfl, rfl, rfl, rfl, rfl, rfl⟩, fun _ _ => Iff.rfl,
      ⟨rfl, rfl, rfl⟩⟩
    case target => exact (tableFind_insert_ne _ _ hji).trans (tableFind_insert_self _ _ _)
    case slot => exact (hplaced j).trans (if_pos rfl)
    case others => exact fun k hk => (hplaced k).trans (if_neg hk)
    case events => exact congrArg (0x00#8 ||| ·) (latchBit_eq_latchEvent _ _)
    case cards =>
      intro k hk
      obtain ⟨hki, hkj⟩ := not_or.1 (List.mem_cons.not.1 hk)
      exact (tableFind_insert_ne _ _ hki).trans (tableFind_insert_ne _ _ (List.ne_of_not_mem_cons hkj))

end Sys2Proof.Machine
end

section
/-! PROOFS. The last hold of a CLOSING card (R41, R42, R61, R65, R66, R67). -/

namespace Sys2Proof.Machine

/-! HOLDS_HIGH judged last -/

/-- The change-set with HOLDS_HIGH evaluated, and `event` raised beside what that latches (R154). -/
def Draft.judgeHolds (d : Draft) (event : BitVec 8) : Draft :=
  { d with
    holdsHigh := evalFlag d.holdsHigh (holdsHighTest d.records)
    events := d.events ||| (event ||| latchEvent d.holdsHigh (holdsHighTest d.records)) }

theorem evalHoldsHigh_eq (d : Draft) : d.evalHoldsHigh = d.judgeHolds 0x00#8 := by
  simp only [Draft.evalHoldsHigh, Draft.judgeHolds, latchBit_eq_latchEvent, BitVec.zero_or]

theorem evalHoldsHigh_raise_eq (d : Draft) : d.evalHoldsHigh.raise .holdExpired = d.judgeHolds 0x02#8 := by
  simp only [Draft.evalHoldsHigh, Draft.raise, Draft.judgeHolds, latchBit_eq_latchEvent, eventBit, BitVec.or_assoc,
    BitVec.or_comm (latchEvent _ _)]

theorem CardMoved.judged {s : State} {r : Records} {j : Nat} {c : Card} {ms : List Nat} {b d : Draft}
    (h : CardMoved s r j c ms b d) (event : BitVec 8) :
    Evaluated s (d.judgeHolds event) r.merchants ms
      (event ||| latchEvent s.holdsHigh (d.judgeHolds event).holdsHigh.live) := by
  obtain ⟨hmerchants, hqual, hevents⟩ := h.evaluated
  obtain ⟨-, hholdsHigh⟩ := h.flags
  refine ⟨hmerchants, hqual, ?_⟩
  rw [BitVec.or_zero] at hevents
  rw [← hholdsHigh]
  exact congrArg (· ||| (event ||| latchEvent d.holdsHigh (holdsHighTest d.records))) hevents

/-! The card -/

section Card

variable {c : Card} {reason : RetireReason} (hopen : c.openHolds = 1) (hreason : c.retireReason = some reason)
  (now : Nat) (h : Hold) (back drawn : Nat)
include hopen hreason

theorem finalReason_last (hstate : c.state = .closing) : finalReason (endedCard now c h back drawn) = some reason := by
  simp [finalReason, endedCard, hstate, hopen, hreason]

theorem retiredCard_last : retiredCard now reason (endedCard now c h back drawn) = { c with
    state := .retired, locks := { host := false, velocity := false }, available := 0, held := c.held - h.amount,
    openHolds := 0, lastPostingAt := now, retiredAt := some now } := by
  simp [retiredCard, endedCard, hopen, hreason]

end Card

/-! The postings -/

section Postings

variable {d : Draft} {h : Hold} {c : Card} {reason : RetireReason}

theorem releaseChanges_last (hfinal : finalReason (endedCard d.now c h h.amount 0) = some reason) :
    releaseChanges d h c = (((d.removeHold h).finalise h.slot (endedCard d.now c h h.amount 0) reason).conclude
      (finalisedMerchants reason)).evalHoldsHigh := by
  simp only [releaseChanges, Draft.settleCard, Draft.evalSettled, hfinal, evalFinalised_eq]
  rfl

theorem completeChanges_last {x back drawn : Nat}
    (hfinal : finalReason (endedCard d.now c h back drawn) = some reason) :
    completeChanges d h c x back drawn =
      ((((d.removeHold h).takeValue h.merchant x).finalise h.slot (endedCard d.now c h back drawn) reason).conclude
        ([h.merchant] ++ finalisedMerchants reason)).evalHoldsHigh := by
  simp only [completeChanges, Draft.settleCard, Draft.evalSettled, hfinal, evalFinalised_eq]
  rfl

/-- The three approvals of a completion are one completion, by what returns to the card and what is drawn from it (R63 to
R65). -/
theorem completeHold_approved {a amt left : Nat} {r : Result} (hdue : d.now < h.deadline)
    (hlimit : a ≤ h.amount + h.amount * h.tolerance / 10000)
    (happroved : a ≤ h.amount ∧ amt = a ∧ left = c.available + (h.amount - a) ∧ r = .ok ∨
      h.amount < a ∧ a - h.amount ≤ c.available ∧ amt = a ∧ left = c.available - (a - h.amount) ∧ r = .ok ∨
      h.amount < a ∧ c.available < a - h.amount ∧
        (merchantOf d.records h.merchant).settings.partialAllowed = true ∧ amt = h.amount + c.available ∧ left = 0 ∧
        r = .partialApproval) :
    ∃ back drawn, completeHold d h c a = completed d h c r amt back drawn ∧ c.available + back - drawn = left := by
  have hstands : ¬ h.deadline ≤ d.now := Nat.not_le_of_lt hdue
  have hwithin : ¬ completionLimit h < a := Nat.not_lt_of_le hlimit
  unfold completeHold
  rw [if_neg hstands, if_neg hwithin]
  obtain ⟨hfull, rfl, rfl, rfl⟩ | ⟨hover, hcovered, rfl, rfl, rfl⟩ | ⟨hover, hshort, hpartial, rfl, rfl, rfl⟩ := happroved
  · exact ⟨_, _, if_pos hfull, rfl⟩
  · exact ⟨_, _, (if_neg (Nat.not_le_of_lt hover)).trans (if_pos hcovered), rfl⟩
  · refine ⟨_, _, (if_neg (Nat.not_le_of_lt hover)).trans ((if_neg (Nat.not_le_of_lt hshort)).trans (if_pos hpartial)), ?_⟩
    omega

theorem postHoldVoid_found {id m : Nat} (hfound : findHold d.records.holds id = some h) (hmerchant : h.merchant = m)
    (hcard : tableFind d.records.cards h.slot = some c) : postHoldVoid id m d =
      if h.deadline ≤ d.now then ((releaseChanges d h c).raise .holdExpired, answer .holdExpired (releaseBody d h c))
      else (releaseChanges d h c, answer .ok (releaseBody d h c)) := by
  simp only [postHoldVoid, hfound, hmerchant, hcard, ne_eq, not_true_eq_false, if_false]

theorem postHoldComplete_found {id m : Nat} (hfound : findHold d.records.holds id = some h) (hmerchant : h.merchant = m)
    (hcard : tableFind d.records.cards h.slot = some c) (a : Nat) : postHoldComplete id m a d = completeHold d h c a := by
  simp only [postHoldComplete, hfound, hmerchant, hcard, ne_eq, not_true_eq_false, if_false]

theorem postExpiry_found {id : Nat} (hfound : findHold d.records.holds id = some h)
    (hcard : tableFind d.records.cards h.slot = some c) :
    postExpiry id d = (releaseChanges d h c).raise .holdExpired := by
  simp only [postExpiry, hfound, hcard]

end Postings

/-- The Expiry Unit's turn grants its waiting request (R69). -/
theorem exec_expiryPosting {s : State} {id : Nat} (hwaits : NoReadWaits s) (hturn : arbiterChoice s = some .expiry)
    (hwaiting : s.expiryWaiting = some id) : exec .expiryPosting s =
      .next (internalUnderWay s .expiry (.hold id) (some s.clock.value) (postExpiry id (startDraft s))) := by
  have hcandidate : candidate s .expiry = some (.hold id) := by rw [candidate, hwaiting]; rfl
  have hrow : exec .expiryPosting s = .next (expiryGrant (readsServed s)) := rfl
  rw [hrow, readsServed_none hwaits, expiryGrant]
  simp only [hwaiting, grantInternal, hturn, hcandidate, and_self, if_true]
  rfl

/-! What the posting moved before the finalisation -/

/-- The records of `s` without the hold `h`. -/
def withoutHold (s : State) (h : Hold) : Records := ((startDraft s).removeHold h).records

/-- The changes of a posting that ended the hold `h`, before its card is settled: the hold is gone, the open bank and the
totals moved, of the entries none but those of `ms`; outstanding is `o` and merchant 0's entry `e` then, and `hit` says
whether a sum saturated. -/
structure EndedHold (s : State) (h : Hold) (ms : List Nat) (o : Int) (e : Entry) (hit : Bool) (b : Draft) : Prop where
  change : b = changed s { withoutHold s h with openBank := b.records.openBank, totals := b.records.totals }
  periods : PeriodsKept (withoutHold s h) b.records
  entries : EntriesKept s.records b.records ms
  outstanding : b.records.totals.outstanding = o
  desk : openEntry b.records 0 = e
  saturated : b.records.openBank.saturated = (s.records.openBank.saturated || hit)
  retired : RetiredKept s.records b.records

theorem removeHold_ended (s : State) (h : Hold) :
    EndedHold s h [] s.records.totals.outstanding (openEntry s.records 0) false ((startDraft s).removeHold h) where
  change := rfl
  periods := ⟨rfl, rfl, rfl, rfl, rfl, rfl, rfl, rfl, rfl⟩
  entries := fun _ _ => rfl
  outstanding := rfl
  desk := rfl
  saturated := (Bool.or_false _).symm
  retired := ⟨rfl, rfl⟩

theorem takeValue_entry (s : State) (h : Hold) (m x k : Nat) :
    openEntry (((startDraft s).removeHold h).takeValue m x).records k =
      if k = m then raiseEntry (openEntry s.records m) .r x else openEntry s.records k :=
  tableGet_put _ _ _ _ _

theorem takeValue_ended (s : State) (h : Hold) (m x : Nat) :
    EndedHold s h [m] (satPos (s.records.totals.outstanding - x))
      (if m = 0 then raiseEntry (openEntry s.records m) .r x else openEntry s.records 0)
      (overflows ((openEntry s.records m).r + x) || overflows (s.records.totals.outstanding - x))
      (((startDraft s).removeHold h).takeValue m x) where
  change := rfl
  periods := ⟨rfl, rfl, rfl, rfl, rfl, rfl, rfl, rfl, rfl⟩
  entries := fun k hk => (takeValue_entry s h m x k).trans (if_neg (List.ne_of_not_mem_cons hk))
  outstanding := rfl
  desk := by rw [takeValue_entry]; exact if_congr eq_comm rfl rfl
  saturated := (Bool.or_assoc _ _ _)
  retired := ⟨rfl, rfl⟩

theorem EndedHold.moves {s : State} {h : Hold} {ms : List Nat} {o : Int} {e : Entry} {hit : Bool} {b : Draft}
    (hb : EndedHold s h ms o e hit b) (j : Nat) (c : Card) (reason : RetireReason) :
    MovesCard s (withoutHold s h) j (retiredCard s.clock.value reason c) (ms ++ finalisedMerchants reason)
      (b.finalise j c reason) := by
  have hperiods := hb.periods
  have hentries := hb.entries
  rw [hb.change] at hperiods hentries ⊢
  exact finalise_moves hperiods hentries j c reason

section Ended

variable {s : State} {h : Hold} {ms : List Nat} {o : Int} {e : Entry} {hit : Bool} {b : Draft}
  (hb : EndedHold s h ms o e hit b) (j : Nat) (c : Card)
include hb

/-- After the hold's end and a cash-out, the value stands in merchant 0's K (R41, R42). -/
theorem EndedHold.cashOut_books :
    let d := (b.finalise j c .cashOut).conclude (ms ++ [0])
    openEntry d.records 0 = { e with
      k := satPos (e.k + c.available), postings := min (e.postings + 1) 4294967295 } ∧
    RetiredKept s.records d.records ∧
    SaturatedBy s d (hit || overflows (e.k + c.available) || overflows (o - c.available)) := by
  have moved := (hb.moves j c .cashOut).conclude
  have hbank := moved.openBank
  obtain ⟨hentry, ⟨hvalue, hperiod⟩, hsaturated⟩ := finalise_cashOut b j c
  obtain ⟨hvalueKept, hperiodKept⟩ := hb.retired
  rw [hb.desk] at hentry hsaturated
  rw [hb.outstanding, hb.saturated, Bool.or_assoc, Bool.or_assoc, ← Bool.or_assoc hit] at hsaturated
  exact ⟨(congrArg (fun k : Bank => tableGet zeroEntry k.entries 0) hbank).trans hentry,
    ⟨(congrArg Totals.retiredValue moved.totals).trans (hvalue.trans hvalueKept),
      (congrArg Bank.retiredInPeriod hbank).trans (hperiod.trans hperiodKept)⟩,
    (congrArg Bank.saturated hbank).trans hsaturated⟩

/-- After the hold's end and a retirement as CLOSED or EXPIRED, the value stands in retired value (R41, R42). -/
theorem EndedHold.retired_books {reason : RetireReason} (hcash : reason ≠ .cashOut) (hnot : reason ≠ .transferred) :
    let d := (b.finalise j c reason).conclude (ms ++ finalisedMerchants reason)
    let value := s.records.totals.retiredValue + c.available
    let period := s.records.openBank.retiredInPeriod + c.available
    d.records.totals.retiredValue = satPos value ∧ d.records.openBank.retiredInPeriod = satPos period ∧
    SaturatedBy s d (hit || overflows value || overflows period || overflows (o - c.available)) := by
  have moved := (hb.moves j c reason).conclude
  have hbank := moved.openBank
  obtain ⟨hvalue, hperiod, hsaturated⟩ := finalise_retired b j c hcash hnot
  obtain ⟨hvalueKept, hperiodKept⟩ := hb.retired
  rw [hvalueKept] at hvalue
  rw [hperiodKept] at hperiod
  rw [hvalueKept, hperiodKept, hb.outstanding, hb.saturated, Bool.or_assoc, Bool.or_assoc, ← Bool.or_assoc hit,
    ← Bool.or_assoc hit] at hsaturated
  exact ⟨(congrArg Totals.retiredValue moved.totals).trans hvalue, (congrArg Bank.retiredInPeriod hbank).trans hperiod,
    (congrArg Bank.saturated hbank).trans hsaturated⟩

theorem EndedHold.desk_entries {reason : RetireReason} {d : Draft}
    (hd : ∀ k, k ∉ finalisedMerchants reason → openEntry d.records k = openEntry b.records k) :
    EntriesKept s.records d.records (ms ++ finalisedMerchants reason) := fun k hk =>
  have ⟨hms, hlast⟩ := not_or.1 (List.mem_append.not.1 hk)
  (hd k hlast).trans (hb.entries k hms)

end Ended

theorem finalisedMerchants_eq (reason : RetireReason) :
    finalisedMerchants reason = if reason = .cashOut then [0] else [] := by
  cases reason <;> rfl

/-- Settles O38: what the hold's end moved, and then the finalisation, concluded on the merchants whose entries they
moved. -/
theorem lastHoldOfAClosingCard : Obligations.LastHoldOfAClosingCard := by
  unfold Obligations.LastHoldOfAClosingCard
  intro s id m q h c reason hfound hmerchant hcard hstate hopen hreason hnot now total desk limit told finalised released
  subst hmerchant
  have hlast := fun back drawn => finalReason_last hopen hreason now h back drawn hstate
  have htold : ∀ x back drawn, amountBody x (settledCard now (endedCard now c h back drawn)) = told x := by
    intro x back drawn
    rw [settledCard, hlast]
    rfl
  have hfinalised : ∀ {ms o e hit b} back drawn event, EndedHold s h ms o e hit b →
      let d := ((b.finalise h.slot (endedCard now c h back drawn) reason).conclude
        (ms ++ finalisedMerchants reason)).judgeHolds event
      finalised d (c.available + back - drawn) o e hit ms event ∧
      ∀ k, k ∉ finalisedMerchants reason → openEntry d.records k = openEntry b.records k := by
    intro ms o e hit b back drawn event hb
    have moved := (hb.moves h.slot (endedCard now c h back drawn) reason).conclude
    have hevaluated := moved.judged event
    obtain ⟨hholds, hcounter⟩ := moved.holds
    obtain ⟨hdirHigh, hholdsHigh⟩ := moved.flags
    obtain ⟨-, -, -, -, -, hlimits, -, -, -⟩ := moved.periods
    refine ⟨⟨hholds, hcounter, ?card, moved.cards, moved.directory, moved.periods, moved.plain, hdirHigh, ?live, ?latched,
      ?outstanding, (congrArg Totals.floor moved.totals :), fun hcash => ?cashOut, fun hcash => ?retired⟩, ?entries⟩
    case card => exact moved.card.trans (congrArg some (retiredCard_last hopen hreason now h back drawn))
    case live => exact congrArg (fun l : Limits => decide (l.monitor.holdWatermark ≤ _)) hlimits
    case latched => exact congrArg (fun f : DevFlag => f.latched || _) hholdsHigh
    case outstanding =>
      rw [← hb.outstanding]
      exact (congrArg Totals.outstanding moved.totals).trans (finalise_outstanding b h.slot _ hnot)
    case cashOut =>
      subst hcash
      obtain ⟨hdesk, hretired, hsaturated⟩ := hb.cashOut_books h.slot (endedCard now c h back drawn)
      exact ⟨hdesk, hretired, hsaturated, hevaluated⟩
    case retired =>
      obtain ⟨hvalue, hperiod, hsaturated⟩ := hb.retired_books h.slot (endedCard now c h back drawn) hcash hnot
      refine ⟨hvalue, hperiod, hsaturated, ?_⟩
      rw [finalisedMerchants_eq, if_neg hcash, List.append_nil] at hevaluated ⊢
      exact hevaluated
    case entries =>
      intro k hk
      exact (congrArg (fun x : Bank => tableGet zeroEntry x.entries k) moved.openBank).trans
        (finalise_entries b h.slot _ reason k hk)
  have hreleased : ∀ event, released (((((startDraft s).removeHold h).finalise h.slot (endedCard now c h h.amount 0)
      reason).conclude (finalisedMerchants reason)).judgeHolds event) event := by
    intro event
    have hb := removeHold_ended s h
    obtain ⟨hfinal, hentries⟩ := hfinalised h.amount 0 event hb
    refine ⟨hfinal, ?_⟩
    rw [← finalisedMerchants_eq]
    exact hb.desk_entries hentries
  have hvoid : releaseChanges (startDraft s) h c = _ :=
    (releaseChanges_last (hlast h.amount 0)).trans (evalHoldsHigh_eq _)
  have hexpired : (releaseChanges (startDraft s) h c).raise .holdExpired = _ :=
    (congrArg (Draft.raise · .holdExpired) (releaseChanges_last (hlast h.amount 0))).trans (evalHoldsHigh_raise_eq _)
  have hbody : releaseBody (startDraft s) h c = told h.amount := htold h.amount h.amount 0
  refine ⟨fun hg hdue => ?_, fun hg hpast => ?_, fun hwaits hturn hwaiting => ?_, fun a hg hpast => ?_,
    fun a amt b r hg hdue hlimit happroved => ?_⟩
  · have hjudged := (postHoldVoid_found (d := startDraft s) hfound rfl hcard).trans (if_neg (Nat.not_le_of_lt hdue))
    rw [hvoid, hbody] at hjudged
    exact ⟨_, exec_judged hg rfl hjudged, hreleased 0x00#8⟩
  · have hjudged := (postHoldVoid_found (d := startDraft s) hfound rfl hcard).trans (if_pos hpast)
    rw [hexpired, hbody] at hjudged
    exact ⟨_, exec_judged hg rfl hjudged, hreleased 0x02#8⟩
  · have hrow := exec_expiryPosting hwaits hturn hwaiting
    rw [postExpiry_found (d := startDraft s) hfound hcard, hexpired] at hrow
    exact ⟨_, hrow, hreleased 0x02#8⟩
  · have hjudged := (postHoldComplete_found (d := startDraft s) hfound rfl hcard a).trans (if_pos hpast)
    rw [hexpired, hbody] at hjudged
    exact ⟨_, exec_judged hg rfl hjudged, hreleased 0x02#8⟩
  · obtain ⟨back, drawn, hcompleted, hleft⟩ := completeHold_approved (d := startDraft s) (c := c) hdue hlimit happroved
    have hb := takeValue_ended s h h.merchant amt
    obtain ⟨hfinal, hentries⟩ := hfinalised back drawn 0x00#8 hb
    rw [hleft] at hfinal
    have hjudged := (postHoldComplete_found (d := startDraft s) hfound rfl hcard a).trans hcompleted
    rw [completed, completeChanges_last (hlast back drawn), evalHoldsHigh_eq] at hjudged
    have hlist : (if reason = .cashOut then [h.merchant, 0] else [h.merchant]) =
        [h.merchant] ++ finalisedMerchants reason := by
      rw [finalisedMerchants_eq]; split <;> rfl
    refine ⟨_, exec_judged hg rfl (hjudged.trans ?answer), hfinal, fun hother => ?entry, ?entries⟩
    case answer => exact congrArg (fun body => (_, answer r (body ++ limitField h))) (htold amt back drawn)
    case entry =>
      have hmissing : h.merchant ∉ finalisedMerchants reason := by
        rw [finalisedMerchants_eq]
        rcases hother with hne | hne <;> simp [hne]
      exact (hentries h.merchant hmissing).trans ((takeValue_entry s h h.merchant amt h.merchant).trans (if_pos rfl))
    case entries => rw [hlist]; exact hb.desk_entries hentries

end Sys2Proof.Machine
end

section
/-! PROOFS. Requests answered at acceptance (R83, R84, R92, R93, R115, R185 to R187). -/

namespace Sys2Proof.Machine

/-! The end of a frame -/

/-- The delivery order once the offered response of a whole frame is delivered (R185). -/
def leftDelivery (s : State) : List Answered :=
  s.port.delivery.filter (fun a => decide (some a.slot.place ≠ s.port.offered))

theorem deliver_whole {s : State} {sdi : List Bool} (h : rightLength sdi = true) :
    deliver s sdi = { s with port := { s.port with delivery := leftDelivery s } } := by
  unfold deliver leftDelivery
  cases hoffered : s.port.offered with
  | none => simp
  | some p => simp [h]

/-- The state in which the request of a good frame is accepted (R185, R186). -/
def received (s : State) : State :=
  { s with
    nSelLow := false
    port := { s.port with delivery := leftDelivery s, lastRejected := false, lastNotTaken := false } }

/-- A good frame that carries a request, with a slot FREE, is accepted once the offered response is delivered (R185). -/
theorem exec_nselRise_accepts {s : State} {sdi : List Bool} {code tag : Byte} {rest : List Byte} (hwaits : NoReadWaits s)
    (hrun : running s = true) (hsel : s.nSelLow = true) (hframe : s.port.frame.isSome = true)
    (hlength : rightLength sdi = true) (hcrc : goodCrc sdi = true) (hbytes : toBytes sdi = code :: tag :: rest)
    (hcode : code ≠ 0x00#8) (hfree : s.port.accepted.length + (leftDelivery s).length < 16) :
    exec (.nselRise sdi) s = .next (closeFrame (accept (received s) code tag (rest.take 28))) := by
  have hrow : exec (.nselRise sdi) s = .next (selRise sdi (readsServed s)) := rfl
  have hroom : hasFree { s with nSelLow := false, port := { s.port with delivery := leftDelivery s } } = true :=
    decide_eq_true hfree
  have hdelivered := deliver_whole (s := { s with nSelLow := false }) hlength
  have hleft : leftDelivery { s with nSelLow := false } = leftDelivery s := rfl
  rw [hrow, readsServed_none hwaits, selRise, if_pos hsel]
  simp only [hrun, hframe, Bool.and_self, if_true, endFrame, hdelivered, hleft, judgeFrame, hlength, hcrc, Bool.not_true,
    Bool.false_eq_true, if_false, hbytes, hcode, hroom]
  rfl

/-- A slot that is answered as it is accepted leaves the ACCEPTED slots as they are and joins the end of the delivery order
(R187). -/
theorem answerSlot_addSlot {s : State} {q : Slot} (a : Answer) (hfresh : ∀ p ∈ s.port.accepted, p.place ≠ q.place) :
    answerSlot (addSlot s q) q a = { s with port := { s.port with
      delivery := s.port.delivery ++ [{ slot := q, answer := a }], nextPlace := s.port.nextPlace + 1 } } := by
  have hkept : s.port.accepted.filter (fun p => decide (p.place ≠ q.place)) = s.port.accepted :=
    List.filter_eq_self.2 (fun p hp => decide_eq_true (hfresh p hp))
  simp only [answerSlot, addSlot, List.filter_append, hkept]
  simp

theorem portInv_fresh {s : State} (h : portInv s = true) : ∀ p ∈ s.port.accepted, p.place ≠ s.port.nextPlace := by
  obtain ⟨⟨-, hrise, -, -⟩, -, -⟩ := (portInv_iff s).1 h
  exact fun p hp => Nat.ne_of_lt (((placesRise_iff _ _).1 hrise).2 p hp)

/-- A new slot that shares no serial with an accepted one is eligible at once (R85). -/
theorem eligible_addSlot {s : State} {q : Slot} (hfresh : ∀ p ∈ s.port.accepted, p.place ≠ q.place)
    (hserials : ∀ p ∈ s.port.accepted, ∀ x ∈ q.serials, x ∉ p.serials) : eligible (addSlot s q) q = true := by
  have hearlier : earlier (addSlot s q) q = s.port.accepted := by
    rw [earlier, addSlot_port, List.takeWhile_append_of_pos (fun p hp => decide_eq_true (hfresh p hp))]
    simp
  rw [eligible, hearlier, List.all_eq_true]
  intro p hp
  rw [Bool.not_eq_true', shareSerial, List.any_eq_false]
  intro x hx hmem
  exact hserials p hp x (List.contains_iff_mem.1 hmem) hx

theorem blockedAnswer_of {s : State} {r : Result}
    (h : s.supply = some .parked ∧ r = .parked ∨
      s.supply ≠ some .parked ∧ s.clock.state = .unset ∧ r = .clockUnset) : blockedAnswer s = some r := by
  obtain ⟨hparked, rfl⟩ | ⟨hlive, hunset, rfl⟩ := h
  · exact if_pos hparked
  · exact (if_neg hlive).trans (if_pos hunset)

/-- A request of the Posting class that is eligible as it is accepted, where no grant can be made, is answered at once (R92,
R93). -/
theorem goOn_blocked {s : State} {i : Instr} {r : Result} (hread : isRead i = false)
    (hfresh : ∀ p ∈ s.port.accepted, p.place ≠ s.port.nextPlace)
    (hserials : ∀ p ∈ s.port.accepted, ∀ x ∈ namedSerials s.records i, x ∉ p.serials)
    (hblocked : blockedAnswer s = some r) (code tag : Byte) (ps : List Byte) :
    let q := newSlot s code tag ps (namedSerials s.records i)
    goOn s code tag ps i = answerSlot (addSlot s q) q (refuseSlot q r) := by
  intro q
  have hanswer : blockedAnswer (addSlot s q) = some r := hblocked
  have hgoesOn : goOn s code tag ps i = answerBlocked (addSlot s q) q := by rw [goOn, hread]; rfl
  rw [hgoesOn, answerBlocked, hanswer]
  exact if_pos (eligible_addSlot hfresh hserials)

/-! The frame of a request -/

theorem toBytes_requestFrame {i : Instr} {code : Nat} {ps : List Byte} (h : encodeRequest i = some (code, ps))
    (tag : Byte) : ∃ crc, toBytes (requestFrame tag i) = BitVec.ofNat 8 code :: tag :: (padParams ps ++ crc) ∧
      (padParams ps ++ crc).take 28 = padParams ps := by
  obtain ⟨-, hfit⟩ := encodes i
  obtain ⟨-, -, hlen⟩ := hfit code ps h
  have hpad : (padParams ps).length = 28 := by rw [padParams, List.length_append, List.length_replicate]; omega
  refine ⟨beBytes 2 (crcBytes (BitVec.ofNat 8 code :: tag :: padParams ps)).toNat, ?_, List.take_left' hpad⟩
  rw [requestFrame, h]
  exact toBytes_flatMap _

/-! What an answer without a grant carries -/

/-- A field of two bytes written back as it was read (R181). -/
theorem field_two (hi lo : Byte) (rest : List Byte) : field 2 (param (hi :: lo :: rest) 2 2) = [some hi, some lo] := by
  have hnumber : param (hi :: lo :: rest) 2 2 = 256 * hi.toNat + lo.toNat := by simp [param, beNat]
  have hhigh : BitVec.ofNat 8 ((256 * hi.toNat + lo.toNat) / 256) = hi := by bv_omega
  have hlow : BitVec.ofNat 8 (256 * hi.toNat + lo.toNat) = lo := by bv_omega
  simp [field, beBytes, hnumber, hhigh, hlow]

theorem refuseSlot_spec (q : Slot) (r : Result) : (refuseSlot q r).result = r ∧
    (q.code = 0x16#8 → (refuseSlot q r).body = [none]) ∧
    (∀ hi lo rest, 0x30#8 ≤ q.code → q.code ≤ 0x35#8 → q.params = hi :: lo :: rest →
      (refuseSlot q r).body = [some hi, some lo]) ∧
    (q.code ≠ 0x16#8 → q.code < 0x30#8 ∨ 0x35#8 < q.code → (refuseSlot q r).body = []) := by
  refine ⟨?_, fun htransfer => ?_, fun hi lo rest hlow hhigh hparams => ?_, fun hother hrange => ?_⟩
  · unfold refuseSlot
    split
    · rfl
    · split
      · rfl
      · rfl
  · rw [refuseSlot, if_pos htransfer]
    rfl
  · have hother : q.code ≠ 0x16#8 := by bv_omega
    have hmerchant : 0x30 ≤ q.code.toNat ∧ q.code.toNat ≤ 0x35 := by bv_omega
    rw [refuseSlot, if_neg hother, if_pos hmerchant, hparams]
    exact field_two hi lo rest
  · have hmerchant : ¬ (0x30 ≤ q.code.toNat ∧ q.code.toNat ≤ 0x35) := by
      rcases hrange with h | h <;> bv_omega
    rw [refuseSlot, if_neg hother, if_neg hmerchant]
    rfl

/-- Settles O6: an answer at acceptance takes the frame to its end and joins the delivery order, whatever called for it. -/
theorem answeredAtAcceptance : Obligations.AnsweredAtAcceptance := by
  unfold Obligations.AnsweredAtAcceptance
  refine ⟨fun s sdi code tag rest r hinv hwaits hrun hsel hframe hlength hcrc hbytes hcode hverdict => ?_,
    fun s i tag code ps r hinv hwaits hwell hread hencode hrun hsel hframe hserials hblocked => ?_, refuseSlot_spec⟩
  · intro left hfree q
    rw [exec_nselRise_accepts hwaits hrun hsel hframe (decide_eq_true hlength) hcrc hbytes hcode hfree]
    have haccept : accept (received s) code tag (rest.take 28) = answerNow (received s) code tag (rest.take 28) r := by
      obtain ⟨h, rfl⟩ | ⟨h, rfl⟩ | ⟨h, rfl⟩ := hverdict <;> rw [accept, h]
    rw [haccept, answerNow]
    exact congrArg (fun t => Host.Outcome.next (closeFrame t)) (answerSlot_addSlot _ (portInv_fresh hinv))
  · intro left hfree q
    obtain ⟨hsome, hfit⟩ := encodes i
    obtain ⟨hpos, hbyte, -⟩ := hfit code ps hencode
    rw [hencode] at hsome
    obtain ⟨hlength, hcrc, -⟩ := requestFrame_spelled hwell hsome.symm tag
    obtain ⟨crc, hbytes, hparams⟩ := toBytes_requestFrame hencode tag
    have hvalue : (BitVec.ofNat 8 code).toNat = code := by rw [BitVec.toNat_ofNat, Nat.mod_eq_of_lt hbyte]
    have hcode : BitVec.ofNat 8 code ≠ 0x00#8 := fun h0 => by
      rw [h0] at hvalue
      exact hpos.ne hvalue
    rw [exec_nselRise_accepts hwaits hrun hsel hframe hlength hcrc hbytes hcode hfree, hparams]
    have hdecode : decodeRequest (BitVec.ofNat 8 code).toNat (padParams ps) = .ok i := by
      rw [hvalue]; exact decode_encode hwell hencode _
    have haccept : accept (received s) (BitVec.ofNat 8 code) tag (padParams ps) =
        goOn (received s) (BitVec.ofNat 8 code) tag (padParams ps) i := by
      rw [accept, hdecode]
    have hanswered := goOn_blocked (s := received s) hread (portInv_fresh (s := s) hinv) hserials
      (blockedAnswer_of (s := s) hblocked)
    rw [haccept, hanswered]
    exact congrArg (fun t => Host.Outcome.next (closeFrame t)) (answerSlot_addSlot _ (portInv_fresh hinv))

end Sys2Proof.Machine
end

section
/-! PROOFS. The Hold Table's order, and the refusals of the spending requests in their order (R52, R54 to R57, R60, R72). -/

namespace Sys2Proof.Machine

/-! The Hold Table -/

/-- Settles O35: the next id is found by counting ids against entries; an entry is added in its place and taken out, and
neither moves the others. -/
theorem holdTableKeepsItsOrder : Obligations.HoldTableKeepsItsOrder := by
  unfold Obligations.HoldTableKeepsItsOrder
  refine ⟨fun holds counter hlow hhigh hlen => allocateHoldId_spec hlow hhigh (by omega), fun holds h => ?_⟩
  have hperm := insertHold_perm h holds
  refine ⟨hperm.length_eq, fun g => hperm.mem_iff.trans List.mem_cons, fun horder hnew => ?_,
    fun horder id => ⟨horder.filter _, ?_⟩⟩
  · exact insertHold_ordered horder ((findHold_eq_none_iff _).1 hnew)
  · exact (findHold_eq_none_iff id).2 (fun g hg => of_decide_eq_true (List.mem_filter.1 hg).2)

/-! What a spend judges -/

theorem usableCard_lost {d : Draft} {x : Nat} (h : cardOf d.records x = none) : usableCard d x = .error .noCard := by
  simp only [usableCard, h]

theorem spendChecks_lost {d : Draft} {x : Nat} (h : cardOf d.records x = none) (m : Nat) :
    spendChecks d x m = .error .noCard := by
  simp only [spendChecks, usableCard_lost h]

/-- The card and merchant checks of a spend on a card that is found, first failure first (R55, R57). -/
theorem spendChecks_found {d : Draft} {x j : Nat} {c : Card} (hcard : cardOf d.records x = some (j, c)) (m : Nat) :
    spendChecks d x m =
      match firstFailure (spendableChecks d.now c ++ tradingChecks (merchantOf d.records m)) with
      | some r => .error r
      | none => .ok (j, c) := by
  rw [firstFailure_append, ← tradingRefusal_eq, spendChecks, usableCard_eq, hcard]
  cases hspend : firstFailure (spendableChecks d.now c) with
  | some r => simp only [hspend, Option.some_or]
  | none => cases tradingRefusal (merchantOf d.records m) <;> simp only [hspend, Option.none_or]

/-- Something is approved when the card has the amount, or has some of it and the merchant takes a part (R56). -/
theorem approve_isSome (available amount : Nat) (partialAllowed : Bool) :
    (approve available amount partialAllowed).isSome =
      decide (amount ≤ available ∨ 0 < available ∧ partialAllowed = true) := by
  unfold approve
  by_cases hwhole : amount ≤ available
  · simp [hwhole]
  · by_cases hpart : 0 < available ∧ partialAllowed = true
    · simp [hwhole, hpart]
    · simp [hwhole, hpart]

theorem approve_none {available amount : Nat} {partialAllowed : Bool}
    (h : ¬ (amount ≤ available ∨ 0 < available ∧ partialAllowed = true)) :
    approve available amount partialAllowed = none := by
  rw [← Option.isNone_iff_eq_none, ← Option.isSome_eq_false_iff, approve_isSome, decide_eq_false h]

/-! Refusals in their order -/

theorem postRedeem_refused {d : Draft} {x m a j : Nat} {c : Card} {r : Result}
    (hcard : cardOf d.records x = some (j, c))
    (h : firstFailure (spendableChecks d.now c ++ tradingChecks (merchantOf d.records m) ++
      [(decide (a ≤ c.available ∨ 0 < c.available ∧ (merchantOf d.records m).settings.partialAllowed = true),
        .insufficient)]) = some r) :
    postRedeem x m a d = (d, refuse r) := by
  rw [firstFailure_append] at h
  unfold postRedeem
  rw [spendChecks_found hcard]
  cases hspend : firstFailure (spendableChecks d.now c ++ tradingChecks (merchantOf d.records m)) with
  | some r' =>
    rw [hspend, Option.some_or, Option.some.injEq] at h
    rw [← h]
  | none =>
    rw [hspend, Option.none_or, firstFailure_cons] at h
    split at h
    · cases h
    · next hvalue =>
      obtain rfl := Option.some.inj h
      simp only [approve_none (mt decide_eq_true hvalue)]

theorem postHoldPlace_refused {d : Draft} {x m a life j : Nat} {c : Card} {r : Result}
    (hcard : cardOf d.records x = some (j, c))
    (h : firstFailure (spendableChecks d.now c ++ tradingChecks (merchantOf d.records m) ++
      [(decide (c.openHolds < 4), .cardHoldsFull), (decide (d.records.holds.length < 4096), .holdsFull),
        (decide (a ≤ c.available ∨ 0 < c.available ∧ (merchantOf d.records m).settings.partialAllowed = true),
          .insufficient)]) = some r) :
    postHoldPlace x m a life d = (d, refuse r) := by
  rw [firstFailure_append] at h
  unfold postHoldPlace
  rw [spendChecks_found hcard]
  cases hspend : firstFailure (spendableChecks d.now c ++ tradingChecks (merchantOf d.records m)) with
  | some r' =>
    rw [hspend, Option.some_or, Option.some.injEq] at h
    rw [← h]
  | none =>
    rw [hspend, Option.none_or] at h
    simp only [firstFailure_cons, decide_eq_true_eq] at h
    split at h
    · next hfew =>
      have hcardRoom : ¬ Config.maxCardHolds ≤ c.openHolds := Nat.not_le_of_lt hfew
      split at h
      · next hshort =>
        have hroom : ¬ Config.maxHolds ≤ d.records.holds.length := Nat.not_le_of_lt hshort
        split at h
        · cases h
        · next hvalue =>
          obtain rfl := Option.some.inj h
          simp only [hcardRoom, hroom, if_false, approve_none hvalue]
      · next hfull =>
        obtain rfl := Option.some.inj h
        have hnone : Config.maxHolds ≤ d.records.holds.length := Nat.le_of_not_lt hfull
        simp only [hcardRoom, hnone, if_true, if_false]
    · next hmany =>
      obtain rfl := Option.some.inj h
      have hnone : Config.maxCardHolds ≤ c.openHolds := Nat.le_of_not_lt hmany
      simp only [hnone, if_true]

theorem postRefund_refused {d : Draft} {x m a j : Nat} {c : Card} {r : Result}
    (hcard : cardOf d.records x = some (j, c))
    (h : firstFailure (spendableChecks d.now c ++ refundChecks (merchantOf d.records m) ++
      [(decide (c.available + c.held + a ≤ d.records.limits.value.cap), .capExceeded)]) = some r) :
    postRefund x m a d = (d, refuse r) := by
  rw [firstFailure_append, firstFailure_append, ← refundRefusal_eq] at h
  unfold postRefund
  rw [usableCard_eq, hcard]
  cases hspend : firstFailure (spendableChecks d.now c) with
  | some r' =>
    rw [hspend, Option.some_or, Option.some_or, Option.some.injEq] at h
    simp only [hspend, h]
  | none =>
    rw [hspend, Option.none_or] at h
    cases hrefund : refundRefusal (merchantOf d.records m) with
    | some r' =>
      rw [hrefund, Option.some_or, Option.some.injEq] at h
      simp only [hspend, h]
    | none =>
      rw [hrefund, Option.none_or, firstFailure_cons] at h
      split at h
      · cases h
      · next hcap =>
        obtain rfl := Option.some.inj h
        have hover : overCap d.records.limits (c.available + c.held) a = true :=
          decide_eq_true (Nat.lt_of_not_le (mt decide_eq_true hcap))
        simp only [hspend, hover, if_true]

section Holds

variable {d : Draft} {id m : Nat}

theorem postHoldComplete_lost (h : findHold d.records.holds id = none) (a : Nat) :
    postHoldComplete id m a d = (d, refuse .noHold) := by
  simp only [postHoldComplete, h]

theorem postHoldVoid_lost (h : findHold d.records.holds id = none) : postHoldVoid id m d = (d, refuse .noHold) := by
  simp only [postHoldVoid, h]

theorem postHoldComplete_stranger {h : Hold} (hfound : findHold d.records.holds id = some h) (hm : h.merchant ≠ m)
    (a : Nat) : postHoldComplete id m a d = (d, refuse .wrongMerchant) := by
  simp only [postHoldComplete, hfound, hm, ne_eq, not_false_eq_true, if_true]

theorem postHoldVoid_stranger {h : Hold} (hfound : findHold d.records.holds id = some h) (hm : h.merchant ≠ m) :
    postHoldVoid id m d = (d, refuse .wrongMerchant) := by
  simp only [postHoldVoid, hfound, hm, ne_eq, not_false_eq_true, if_true]

end Holds

/-- Settles O39, request by request, from what each judgement answers where a check of its table fails. -/
theorem spendRefusalsInOrder : Obligations.SpendRefusalsInOrder := by
  unfold Obligations.SpendRefusalsInOrder
  intro s q now refused
  refine ⟨fun x m a => ⟨fun hg hnone => ?_, fun hg hnone => ?_, fun life hg hnone => ?_, fun j c r hcard => ?_⟩,
    fun id m a hg => ⟨fun hnone => ?_, fun h hfound hm => ?_⟩⟩
  · exact exec_judged hg rfl (by simp only [postRedeem, spendChecks_lost (d := startDraft s) hnone])
  · exact exec_judged hg rfl (by simp only [postRefund, usableCard_lost (d := startDraft s) hnone])
  · exact exec_judged hg rfl (by simp only [postHoldPlace, spendChecks_lost (d := startDraft s) hnone])
  · exact ⟨fun hg h => exec_judged hg rfl (postRedeem_refused hcard h),
      fun life hg h => exec_judged hg rfl (postHoldPlace_refused hcard h),
      fun hg h => exec_judged hg rfl (postRefund_refused hcard h)⟩
  · exact exec_judged hg rfl (postHoldComplete_lost hnone a)
  · exact exec_judged hg rfl (postHoldComplete_stranger hfound hm a)

end Sys2Proof.Machine
end

section
/-! PROOFS. REDEEM and HOLD_PLACE in full (R52 to R59, R74, R75, R152). -/

namespace Sys2Proof.Machine

/-! Events raised beside the evaluations -/

/-- The change-set with the events `more` raised besides. -/
def Draft.addEvents (d : Draft) (more : BitVec 8) : Draft := { d with events := d.events ||| more }

section Events

variable (d : Draft) (more : BitVec 8) (m : Nat)

theorem addEvents_raise (e : Event) : (d.addEvents more).raise e = (d.raise e).addEvents more := by
  simp only [Draft.addEvents, Draft.raise, BitVec.or_assoc, BitVec.or_comm more]

theorem addEvents_latchDeficit : (d.addEvents more).latchDeficit m = (d.latchDeficit m).addEvents more :=
  addEvents_raise (d.putMerchant m _) more .conditionLatched

theorem addEvents_latchRefund : (d.addEvents more).latchRefund m = (d.latchRefund m).addEvents more :=
  addEvents_raise (d.putMerchant m _) more .conditionLatched

theorem addEvents_evalDeficit : (d.addEvents more).evalDeficit m = (d.evalDeficit m).addEvents more := by
  unfold Draft.evalDeficit
  rw [addEvents_latchDeficit]
  exact (apply_ite (Draft.addEvents · more) _ _ _).symm

theorem addEvents_evalRefund : (d.addEvents more).evalRefund m = (d.evalRefund m).addEvents more := by
  unfold Draft.evalRefund
  rw [addEvents_latchRefund]
  simp only [apply_ite (Draft.addEvents · more)]
  rfl

/-- An evaluation of merchant conditions neither reads nor drops the events that stand (R152, R164). -/
theorem addEvents_evalMerchant : (d.addEvents more).evalMerchant m = (d.evalMerchant m).addEvents more := by
  rw [Draft.evalMerchant, addEvents_evalDeficit, addEvents_evalRefund, Draft.evalMerchant]

end Events

theorem CardMoved.evaluated_besides {s : State} {r : Records} {j : Nat} {c : Card} {ms : List Nat} {b d : Draft}
    (h : CardMoved s r j c ms b d) (more : BitVec 8) : Evaluated s (d.addEvents more) r.merchants ms more := by
  obtain ⟨hmerchants, hqual, hevents⟩ := h.evaluated
  rw [BitVec.or_zero] at hevents
  exact ⟨hmerchants, hqual, congrArg (· ||| more) hevents⟩

/-! What a spend is approved for -/

/-- A spend on a card that is ACTIVE and not expired, with a merchant that trades, passes its checks (R55, R57). -/
theorem spendChecks_of_spendable {s : State} {x j m : Nat} {c : Card} (hcard : cardOf s.records x = some (j, c))
    (hspend : Spendable s c) (htrades : Trading s.records m) : spendChecks (startDraft s) x m = .ok (j, c) := by
  have hmerchant : tradingRefusal (merchantOf s.records m) = none := by rw [tradingRefusal, htrades]
  simp only [spendChecks, usableCard_of_spendable hcard hspend, startDraft_records, hmerchant]

/-- The whole amount is approved, or, where the merchant takes a part, what is available (R56). -/
theorem approve_approved {available a amt : Nat} {allowed : Bool} {r : Result}
    (h : a ≤ available ∧ amt = a ∧ r = .ok ∨
      available < a ∧ 0 < available ∧ allowed = true ∧ amt = available ∧ r = .partialApproval) :
    approve available a allowed = some amt ∧ approvalResult amt a = r := by
  obtain ⟨hwhole, rfl, rfl⟩ | ⟨hshort, hsome, rfl, rfl, rfl⟩ := h
  · exact ⟨if_pos hwhole, if_pos rfl⟩
  · have hpart : (decide (0 < amt) && true) = true := by simp [hsome]
    exact ⟨(if_neg (Nat.not_le_of_lt hshort)).trans (if_pos hpart), if_neg (Nat.ne_of_lt hshort)⟩

/-! REDEEM -/

/-- The changes of a redemption before its merchant is evaluated, without the event of its spend. -/
def redeemBase (s : State) (j : Nat) (c : Card) (m x : Nat) : Draft :=
  ((startDraft s).putCard j (redeemedCard (startDraft s) c x)).takeValue m x

theorem redeemChanges_eq (s : State) (j : Nat) (c : Card) (m x : Nat) :
    redeemChanges (startDraft s) j c m x =
      ((redeemBase s j c m x).conclude [m]).addEvents (spendBit s.records.limits s.clock.value c) :=
  congrArg Draft.commit (addEvents_evalMerchant (redeemBase s j c m x) _ m)

theorem redeemBase_moves (s : State) (j : Nat) (c : Card) (m x : Nat) :
    MovesCard s s.records j (redeemedCard (startDraft s) c x) [m] (redeemBase s j c m x) where
  change := rfl
  periods := ⟨rfl, rfl, rfl, rfl, rfl, rfl, rfl, rfl, rfl⟩
  entries := fun _ hk => tableGet_put_ne _ _ _ (List.ne_of_not_mem_cons hk)

theorem postRedeem_approved {s : State} {x m a j amt : Nat} {c : Card} {r : Result}
    (hcard : cardOf s.records x = some (j, c)) (hspend : Spendable s c) (htrades : Trading s.records m)
    (h : a ≤ c.available ∧ amt = a ∧ r = .ok ∨
      c.available < a ∧ 0 < c.available ∧ (merchantOf s.records m).settings.partialAllowed = true ∧
        amt = c.available ∧ r = .partialApproval) :
    postRedeem x m a (startDraft s) =
      (redeemChanges (startDraft s) j c m amt, answer r (amountBody amt (redeemedCard (startDraft s) c amt))) := by
  obtain ⟨happroved, hresult⟩ := approve_approved h
  simp only [postRedeem, spendChecks_of_spendable hcard hspend htrades, startDraft_records, happroved, hresult]

/-- Settles O33: the spend on the card, R and outstanding are one change, concluded on the merchant, with the event of the
spend besides. -/
theorem redeemTakesTheApprovedAmount : Obligations.RedeemTakesTheApprovedAmount := by
  unfold Obligations.RedeemTakesTheApprovedAmount
  intro s x m a q j c hg hcard hspend htrades now e o allowed
  refine ⟨fun amt r happroved => ?_, fun hshort hnothing => ?_⟩
  · intro c'
    have moved := (redeemBase_moves s j c m amt).conclude
    have hevaluated := moved.evaluated_besides (spendBit s.records.limits now c)
    have hbank := moved.openBank
    have kept := spendCard_keeps s.records.limits now { c with available := c.available - amt, lastPostingAt := now }
    have hjudged := postRedeem_approved hcard hspend htrades happroved
    rw [redeemChanges_eq] at hjudged
    refine ⟨((redeemBase s j c m amt).conclude [m]).addEvents (spendBit s.records.limits now c),
      exec_judged hg rfl (hjudged.trans ?answer), moved.card, ?entry, moved.totals, ?saturated,
      ⟨(congrArg Totals.retiredValue moved.totals :), (congrArg Bank.retiredInPeriod hbank :)⟩, moved.counts, moved.holds,
      moved.directory, moved.flags, hevaluated, moved.valueKept⟩
    case answer =>
      have havailable : c'.available = c.available - amt := kept.available
      have hheld : c'.held = c.held := kept.held
      rw [← havailable, ← hheld]
      rfl
    case entry =>
      exact (congrArg (fun b : Bank => tableGet zeroEntry b.entries m) hbank).trans (tableGet_put_self _ _ _ _)
    case saturated => exact (congrArg Bank.saturated hbank).trans (Bool.or_assoc _ _ _)
  · have hnone : approve c.available a (merchantOf s.records m).settings.partialAllowed = none := by
      refine approve_none (not_or.2 ⟨Nat.not_le_of_lt hshort, fun ⟨hsome, hpart⟩ => ?_⟩)
      rcases hnothing with hzero | hwhole
      · omega
      · exact absurd (hwhole.symm.trans hpart) (by decide)
    exact exec_judged hg rfl (by simp only [postRedeem, spendChecks_of_spendable hcard hspend htrades, startDraft_records,
      hnone])

/-! HOLD_PLACE -/

/-- The records of `s` with the hold `h` added. -/
def withHold (s : State) (h : Hold) : Records := ((startDraft s).addHold h).records

/-- An open-hold count moves no other merchant, and of its own merchant's record nothing else. -/
theorem merchantsKept_withOpenHolds {s : State} {r : Records} {m n : Nat} (h : r.merchants = withOpenHolds s m n) :
    MerchantsKept s.records r [m] := by
  have hread : ∀ k, merchantOf r k =
      if k = m then { merchantOf s.records m with openHolds := n } else merchantOf s.records k := fun k => by
    rw [merchantOf, h]
    exact tableGet_put _ _ _ _ _
  refine ⟨fun k hk => (hread k).trans (if_neg (List.ne_of_not_mem_cons hk)), fun k => ?_⟩
  rw [hread k]
  split
  · next hk => rw [hk]; exact ⟨rfl, rfl, rfl⟩
  · exact ⟨rfl, rfl, rfl⟩

theorem merchantsKept_trans {r1 r2 r3 : Records} {ms ms' : List Nat} (h : MerchantsKept r1 r2 ms)
    (k : MerchantsKept r2 r3 ms') (hsub : ∀ x ∈ ms', x ∈ ms) : MerchantsKept r1 r3 ms := by
  obtain ⟨hother, hsame⟩ := h
  obtain ⟨kother, ksame⟩ := k
  refine ⟨fun x hx => (kother x (fun hx' => hx (hsub x hx'))).trans (hother x hx), fun x => ?_⟩
  obtain ⟨hstate, hsettings, hwithdrawn⟩ := hsame x
  obtain ⟨kstate, ksettings, kwithdrawn⟩ := ksame x
  exact ⟨kstate.trans hstate, ksettings.trans hsettings, kwithdrawn.trans hwithdrawn⟩

/-- What a posting on the merchant `m` leaves alone that moved an entry of the Hold Table with its open-hold count. -/
theorem CardMoved.valueKept_of_hold {s : State} {r : Records} {j m n : Nat} {c : Card} {ms : List Nat} {b d : Draft}
    (h : CardMoved s r j c ms b d) (hms : ∀ x ∈ ms, x ∈ [m])
    (hr : r = { s.records with
      holds := r.holds, holdIdCounter := r.holdIdCounter, merchants := withOpenHolds s m n }) :
    ValueKept s d [j] [m] := by
  have hmerchants : MerchantsKept s.records r [m] := merchantsKept_withOpenHolds (congrArg Records.merchants hr)
  have hout : ∀ k, k ∉ [m] → k ∉ ms := fun k hk hk' => hk (hms k hk')
  have hcards := h.cards
  have hentries := h.entries
  have hperiods := h.periods
  rw [hr] at hcards hentries hperiods
  exact ⟨hcards, fun k hk => hentries k (hout k hk), merchantsKept_trans hmerchants h.merchants hms, hperiods,
    fun k hk => h.qual k (hout k.merchant hk), h.plain⟩

/-- The changes of a placement, without the events of its spend and before HOLDS_HIGH is evaluated. -/
def placeBase (s : State) (j : Nat) (c : Card) (h : Hold) : Draft :=
  ((startDraft s).addHold h).putCard j (holdingCard (startDraft s) c h.amount)

theorem placeChanges_eq (s : State) (j : Nat) (c : Card) (h : Hold) :
    placeChanges (startDraft s) j c h =
      ((placeBase s j c h).conclude []).judgeHolds (spendBit s.records.limits s.clock.value c) := by
  have hevents : ∀ b e : BitVec 8, 0x00#8 ||| b ||| e = 0x00#8 ||| (b ||| e) := fun b e => BitVec.or_assoc _ _ _
  simp only [placeChanges, Draft.evalHoldsHigh, latchBit_eq_latchEvent, Draft.judgeHolds]
  exact congrArg (fun e => { ((placeBase s j c h).conclude []).judgeHolds 0x00#8 with events := e }) (hevents _ _)

theorem placeBase_moves (s : State) (j : Nat) (c : Card) (h : Hold) :
    MovesCard s (withHold s h) j (holdingCard (startDraft s) c h.amount) [] (placeBase s j c h) where
  change := rfl
  periods := ⟨rfl, rfl, rfl, rfl, rfl, rfl, rfl, rfl, rfl⟩
  entries := fun _ _ => rfl

theorem insertHold_length (h : Hold) (holds : List Hold) : (insertHold h holds).length = holds.length + 1 :=
  (insertHold_perm h holds).length_eq

theorem postHoldPlace_approved {s : State} {x m a life j amt : Nat} {c : Card} {r : Result}
    (hcard : cardOf s.records x = some (j, c)) (hspend : Spendable s c) (htrades : Trading s.records m)
    (hfew : c.openHolds < 4) (hroom : s.records.holds.length < 4096)
    (happroved : a ≤ c.available ∧ amt = a ∧ r = .ok ∨
      c.available < a ∧ 0 < c.available ∧ (merchantOf s.records m).settings.partialAllowed = true ∧
        amt = c.available ∧ r = .partialApproval)
    {h : Hold} (hplaced : placedHold (startDraft s) j m amt life = h) {c' : Card}
    (hholding : holdingCard (startDraft s) c amt = c') :
    postHoldPlace x m a life (startDraft s) =
      (placeChanges (startDraft s) j c h,
        answer r (field 2 h.id ++ field 4 amt ++ field 4 h.deadline ++ field 4 c'.available ++ field 4 c'.held ++
          field 1 (cardStateCode c'.state))) := by
  obtain ⟨hwhole, hresult⟩ := approve_approved happroved
  have hcardRoom : ¬ Config.maxCardHolds ≤ c.openHolds := Nat.not_le_of_lt hfew
  have htable : ¬ Config.maxHolds ≤ s.records.holds.length := Nat.not_le_of_lt hroom
  simp only [postHoldPlace, spendChecks_of_spendable hcard hspend htrades, startDraft_records, hcardRoom, htable, if_false,
    hwhole, hresult, hplaced, hholding]

/-- Settles O34: the entry, the two open-hold counts and the spend on the card are one change, after which HOLDS_HIGH is
evaluated on one entry more. -/
theorem holdPlaceReservesTheAmount : Obligations.HoldPlaceReservesTheAmount := by
  unfold Obligations.HoldPlaceReservesTheAmount
  intro s x m a life q j c amt r hg hcard hspend htrades hfew hroom happroved now limits id deadline h c'
  have moved := (placeBase_moves s j c h).conclude
  have hevaluated := moved.judged (spendBit s.records.limits now c)
  have hjudged : postHoldPlace x m a life (startDraft s) = _ :=
    postHoldPlace_approved hcard hspend htrades hfew hroom happroved (h := h) rfl (c' := c') rfl
  have kept := spendCard_keeps s.records.limits now
    { c with
      available := c.available - amt, held := c.held + amt, openHolds := c.openHolds + 1, lastPostingAt := now }
  obtain ⟨hholds, hcounter⟩ := moved.holds
  obtain ⟨hdirHigh, hholdsHigh⟩ := moved.flags
  obtain ⟨-, -, -, -, -, hlimits, -, -, -⟩ := moved.periods
  rw [placeChanges_eq] at hjudged
  refine ⟨((placeBase s j c h).conclude []).judgeHolds (spendBit s.records.limits now c),
    exec_judged hg rfl (hjudged.trans ?answer), hholds, hcounter, moved.card, hevaluated, moved.openBank, moved.totals,
    moved.directory, hdirHigh, ?live, ?latched, rfl, moved.valueKept_of_hold (by simp) rfl⟩
  case answer =>
    have havailable : c'.available = c.available - amt := kept.available
    have hheld : c'.held = c.held + amt := kept.held
    rw [← havailable, ← hheld]
  case live =>
    have hlength := (congrArg List.length hholds).trans (insertHold_length h s.records.holds)
    exact congrArg₂ (fun (l : Limits) (n : Nat) => decide (l.monitor.holdWatermark ≤ n)) hlimits hlength
  case latched => exact congrArg (fun f : DevFlag => f.latched || _) hholdsHigh

end Sys2Proof.Machine
end

section
/-! PROOFS. A hold that ends on a card which lives on: HOLD_COMPLETE, HOLD_VOID and EXPIRY_POSTING (R60 to R67, R69). -/

namespace Sys2Proof.Machine

/-! The card lives on -/

section Card

variable {d : Draft} {h : Hold} {c : Card} (hlives : c.state ≠ .closing ∨ 1 < c.openHolds)
include hlives

theorem finalReason_none (now : Nat) (h : Hold) (back drawn : Nat) : finalReason (endedCard now c h back drawn) = none := by
  refine if_neg (fun ⟨hclosing, hlast⟩ => ?_)
  simp only [endedCard] at hclosing hlast
  rcases hlives with hstate | hopen
  · exact hstate hclosing
  · omega

theorem settledCard_lives (now : Nat) (h : Hold) (back drawn : Nat) :
    settledCard now (endedCard now c h back drawn) = endedCard now c h back drawn := by
  rw [settledCard, finalReason_none hlives]

theorem releaseChanges_lives : releaseChanges d h c =
    (((d.removeHold h).putCard h.slot (endedCard d.now c h h.amount 0)).conclude []).evalHoldsHigh := by
  simp only [releaseChanges, Draft.settleCard, Draft.evalSettled, finalReason_none hlives]
  rfl

theorem completeChanges_lives (x back drawn : Nat) : completeChanges d h c x back drawn =
    ((((d.removeHold h).takeValue h.merchant x).putCard h.slot (endedCard d.now c h back drawn)).conclude
      [h.merchant]).evalHoldsHigh := by
  simp only [completeChanges, Draft.settleCard, Draft.evalSettled, finalReason_none hlives]
  rfl

end Card

/-! What the posting leaves -/

/-- What a posting leaves that ended the hold `h` and wrote the card `c`, after the changes `b` and the evaluation of the
merchants `ms`, with `event` raised besides. -/
structure HoldGone (s : State) (h : Hold) (c : Card) (ms : List Nat) (event : BitVec 8) (b d : Draft) : Prop where
  holds : d.records.holds = s.records.holds.filter (fun g => decide (g.id ≠ h.id))
  counter : d.records.holdIdCounter = s.records.holdIdCounter
  card : tableFind d.records.cards h.slot = some c
  openBank : d.records.openBank = b.records.openBank
  totals : d.records.totals = { b.records.totals with floor := s.clock.value }
  directory : DirectoryKept s.records d.records
  evaluated : Evaluated s d (withOpenHolds s h.merchant ((merchantOf s.records h.merchant).openHolds - 1)) ms
    (event ||| latchEvent s.holdsHigh d.holdsHigh.live)
  dirHigh : d.dirHigh = s.dirHigh
  live : d.holdsHigh.live = decide (s.records.limits.monitor.holdWatermark ≤ d.records.holds.length)
  latched : d.holdsHigh.latched = (s.holdsHigh.latched || d.holdsHigh.live)
  valueKept : ValueKept s d [h.slot] [h.merchant]

section Ended

variable {s : State} {h : Hold} {ms : List Nat} {o : Int} {e : Entry} {hit : Bool} {b : Draft}
  (hb : EndedHold s h ms o e hit b)
include hb

/-- After changes that ended a hold, a card that lives on is written. -/
theorem EndedHold.putCard (j : Nat) (c : Card) : MovesCard s (withoutHold s h) j c ms (b.putCard j c) where
  change := congrArg (Draft.putCard · j c) hb.change
  periods := hb.periods
  entries := hb.entries

theorem EndedHold.gone (hms : ∀ m ∈ ms, m ∈ [h.merchant]) (c : Card) (event : BitVec 8) :
    HoldGone s h c ms event b (((b.putCard h.slot c).conclude ms).judgeHolds event) := by
  have moved := (hb.putCard h.slot c).conclude
  obtain ⟨hholds, hcounter⟩ := moved.holds
  obtain ⟨hdirHigh, hholdsHigh⟩ := moved.flags
  obtain ⟨-, -, -, -, -, hlimits, -, -, -⟩ := moved.periods
  exact
    { holds := hholds
      counter := hcounter
      card := moved.card
      openBank := moved.openBank
      totals := moved.totals
      directory := moved.directory
      evaluated := moved.judged event
      dirHigh := hdirHigh
      live := congrArg (fun l : Limits => decide (l.monitor.holdWatermark ≤ _)) hlimits
      latched := congrArg (fun f : DevFlag => f.latched || _) hholdsHigh
      valueKept := moved.valueKept_of_hold hms rfl }

end Ended

/-! Releases -/

/-- The change-set of a release with `event` raised besides, on a card that lives on (R66). -/
def releasedDraft (s : State) (h : Hold) (c : Card) (event : BitVec 8) : Draft :=
  ((((startDraft s).removeHold h).putCard h.slot (endedCard s.clock.value c h h.amount 0)).conclude []).judgeHolds event

theorem releasedDraft_gone (s : State) (h : Hold) (c : Card) (event : BitVec 8) :
    HoldGone s h (endedCard s.clock.value c h h.amount 0) [] event ((startDraft s).removeHold h)
      (releasedDraft s h c event) :=
  (removeHold_ended s h).gone (by simp) _ event

section Released

variable {s : State} {h : Hold} {c : Card} (hlives : c.state ≠ .closing ∨ 1 < c.openHolds)
include hlives

theorem releaseChanges_released : releaseChanges (startDraft s) h c = releasedDraft s h c 0x00#8 :=
  (releaseChanges_lives hlives).trans (evalHoldsHigh_eq _)

theorem releaseChanges_expired : (releaseChanges (startDraft s) h c).raise .holdExpired = releasedDraft s h c 0x02#8 :=
  (congrArg (Draft.raise · .holdExpired) (releaseChanges_lives hlives)).trans (evalHoldsHigh_raise_eq _)

theorem releaseBody_lives : releaseBody (startDraft s) h c =
    field 4 h.amount ++ field 4 (c.available + h.amount) ++ field 4 (c.held - h.amount) ++
      field 1 (cardStateCode c.state) :=
  congrArg (amountBody h.amount) (settledCard_lives hlives s.clock.value h h.amount 0)

end Released

/-- Settles O19: the waiting request is granted, and its judgement is a release with HOLD_EXPIRED, or nothing. -/
theorem expiryReleasesTheWaitingHold : Obligations.ExpiryReleasesTheWaitingHold := by
  unfold Obligations.ExpiryReleasesTheWaitingHold
  intro s id hwaits hturn hwaiting
  have hrow := exec_expiryPosting hwaits hturn hwaiting
  refine ⟨fun h c hfound hcard hlives => ?_, fun hnone => ?_⟩
  · have gone := releasedDraft_gone s h c 0x02#8
    rw [postExpiry_found (d := startDraft s) hfound hcard, releaseChanges_expired hlives] at hrow
    exact ⟨_, hrow, gone.holds, gone.card, gone.openBank, gone.totals, gone.counter, gone.directory, gone.evaluated,
      gone.dirHigh, gone.latched, gone.live, gone.valueKept⟩
  · have hnothing : postExpiry id (startDraft s) = startDraft s := by simp only [postExpiry, startDraft_records, hnone]
    rw [hrow, hnothing]

/-- Settles O37: a void and a late completion are the same release, with HOLD_EXPIRED from the deadline on. -/
theorem holdVoidReleasesTheHold : Obligations.HoldVoidReleasesTheHold := by
  unfold Obligations.HoldVoidReleasesTheHold
  intro s id m q
  refine ⟨fun hg hnone => exec_judged hg rfl (postHoldVoid_lost hnone),
    fun h hg hfound hm => exec_judged hg rfl (postHoldVoid_stranger hfound hm), fun h c hfound hmerchant hcard hlives => ?_⟩
  subst hmerchant
  intro now told released
  have hreleased : ∀ event, released (releasedDraft s h c event) event := fun event =>
    have gone := releasedDraft_gone s h c event
    ⟨gone.holds, gone.card, gone.evaluated, gone.openBank, gone.totals, gone.counter, gone.directory, gone.dirHigh,
      gone.live, gone.latched, gone.valueKept⟩
  have htold : releaseBody (startDraft s) h c = told := releaseBody_lives hlives
  have hvoid := postHoldVoid_found (d := startDraft s) hfound rfl hcard
  rw [releaseChanges_expired hlives, releaseChanges_released hlives, htold] at hvoid
  refine ⟨fun hg hdue => ⟨_, exec_judged hg rfl (hvoid.trans (if_neg (Nat.not_le_of_lt hdue))), hreleased 0x00#8⟩,
    fun hg hpast => ⟨_, exec_judged hg rfl (hvoid.trans (if_pos hpast)), hreleased 0x02#8⟩, fun a hg hpast => ?_⟩
  have hcomplete := (postHoldComplete_found (d := startDraft s) hfound rfl hcard a).trans (if_pos hpast)
  rw [releaseChanges_expired hlives, htold] at hcomplete
  exact ⟨_, exec_judged hg rfl hcomplete, hreleased 0x02#8⟩

/-! Completions -/

/-- The change-set of a completion approved for `x`, on a card that lives on (R63 to R65). -/
def completedDraft (s : State) (h : Hold) (c : Card) (x back drawn : Nat) : Draft :=
  (((((startDraft s).removeHold h).takeValue h.merchant x).putCard h.slot
    (endedCard s.clock.value c h back drawn)).conclude [h.merchant]).judgeHolds 0x00#8

theorem completedDraft_gone (s : State) (h : Hold) (c : Card) (x back drawn : Nat) :
    HoldGone s h (endedCard s.clock.value c h back drawn) [h.merchant] 0x00#8
      (((startDraft s).removeHold h).takeValue h.merchant x) (completedDraft s h c x back drawn) :=
  (takeValue_ended s h h.merchant x).gone (fun _ => id) _ _

theorem completed_lives {s : State} {h : Hold} {c : Card} (hlives : c.state ≠ .closing ∨ 1 < c.openHolds) (r : Result)
    (x back drawn : Nat) : completed (startDraft s) h c r x back drawn =
      (completedDraft s h c x back drawn,
        answer r (amountBody x (endedCard s.clock.value c h back drawn) ++ limitField h)) := by
  rw [completed, completeChanges_lives hlives, evalHoldsHigh_eq, startDraft_now, settledCard_lives hlives]
  rfl

/-- A completion above its limit is refused, and so is one that the card does not cover (R62, R64). -/
theorem completeHold_refused {d : Draft} {h : Hold} {c : Card} {a : Nat} {r : Result} (hdue : d.now < h.deadline)
    (hrefused : completionLimit h < a ∧ r = .overTolerance ∨
      a ≤ completionLimit h ∧ h.amount < a ∧ c.available < a - h.amount ∧
        (merchantOf d.records h.merchant).settings.partialAllowed = false ∧ r = .insufficient) :
    completeHold d h c a = (d, limitRefusal h r) := by
  rw [completeHold, if_neg (Nat.not_le_of_lt hdue)]
  obtain ⟨hover, rfl⟩ | ⟨hwithin, hmore, hshort, hwhole, rfl⟩ := hrefused
  · exact if_pos hover
  · rw [if_neg (Nat.not_lt_of_le hwithin), if_neg (Nat.not_le_of_lt hmore), completeOver,
      if_neg (Nat.not_le_of_lt hshort), hwhole]
    rfl

theorem limitRefusal_eq (h : Hold) (r : Result) :
    limitRefusal h r = answer r (List.replicate 13 (some 0x00#8) ++ field 5 (h.amount + h.amount * h.tolerance / 10000)) := by
  have hzeros : field 13 0 = List.replicate 13 (some 0x00#8) := by decide
  rw [limitRefusal, hzeros]
  rfl

/-- Settles O36: the refusals by the completion limit and the value to cover it, and the three approvals as one
completion. -/
theorem holdCompleteTakesValue : Obligations.HoldCompleteTakesValue := by
  unfold Obligations.HoldCompleteTakesValue
  intro s id m a q h c hg hfound hmerchant hcard hdue
  subst hmerchant
  intro now e o limit allowed refused
  have hfoundRow := postHoldComplete_found (d := startDraft s) hfound rfl hcard a
  have hrefuse : ∀ {r}, completeHold (startDraft s) h c a = (startDraft s, limitRefusal h r) → refused r := fun hr =>
    exec_judged hg rfl (hfoundRow.trans (hr.trans (by rw [limitRefusal_eq])))
  refine ⟨fun hover => hrefuse (completeHold_refused hdue (.inl ⟨hover, rfl⟩)),
    fun hwithin hmore hshort hwhole => hrefuse (completeHold_refused hdue (.inr ⟨hwithin, hmore, hshort, hwhole, rfl⟩)),
    fun amt available r hlives happroved => ?_⟩
  have hwithin : a ≤ limit := by rcases happroved with ⟨h, -⟩ | ⟨h, -⟩ | ⟨h, -⟩ <;> exact h
  obtain ⟨back, drawn, hcompleted, hleft⟩ := completeHold_approved (d := startDraft s) (c := c) (amt := amt)
    (left := available) (r := r) hdue hwithin (happroved.imp And.right (Or.imp And.right And.right))
  have gone := completedDraft_gone s h c amt back drawn
  have hbank := gone.openBank
  have hevaluated := gone.evaluated
  rw [BitVec.zero_or] at hevaluated
  rw [completed_lives hlives] at hcompleted
  refine ⟨completedDraft s h c amt back drawn, exec_judged hg rfl (hfoundRow.trans (hcompleted.trans ?answer)), gone.holds,
    ?card, hevaluated, ?entry, gone.totals, ?saturated,
    ⟨(congrArg Totals.retiredValue gone.totals :), (congrArg Bank.retiredInPeriod hbank :)⟩, gone.counter, gone.directory,
    gone.dirHigh, gone.live, gone.latched, gone.valueKept⟩
  case answer => rw [← hleft]; rfl
  case card => rw [← hleft]; exact gone.card
  case entry =>
    exact (congrArg (fun b : Bank => tableGet zeroEntry b.entries h.merchant) hbank).trans (tableGet_put_self _ _ _ _)
  case saturated => exact (congrArg Bank.saturated hbank).trans (Bool.or_assoc _ _ _)

end Sys2Proof.Machine
end

section
/-! PROOFS. The release of nRESET (R68, R88, R169, R178, R179). -/

namespace Sys2Proof.Machine

/-- CLOCK_NEEDED is set at the release if it was held back, and is held back no longer (R178). -/
theorem raiseHeld_eq (s : State) : raiseHeld s =
    { s with
      events := s.events ||| (if s.clockNeededHeld then 0x20#8 else 0x00#8), clockNeededHeld := false } := by
  unfold raiseHeld
  cases hheld : s.clockNeededHeld with
  | false => rw [if_neg Bool.false_ne_true, if_neg Bool.false_ne_true, BitVec.or_zero, ← hheld]
  | true => simp [State.raise, eventBit]

/-- What the release evaluates: the state of a running device at the reading `r`, with no event but a CLOCK_NEEDED held
back (R88, R178, R179). -/
def atRelease (s : State) (r : SupplyReading) : State :=
  { s with
    nResetLow := false
    reading := r
    lastKind := .settlement
    posting := none
    events := if s.clockNeededHeld then 0x20#8 else 0x00#8
    clockNeededHeld := false }

theorem exec_nresetRelease {s : State} (hreset : s.nResetLow = true) (hpow : s.powered = true) (hevents : s.events = 0x00#8)
    (r : SupplyReading) :
    exec (.nresetRelease r) s = .next (expiryTest (evalTables (firstEvaluation (atRelease s r)))) := by
  have hrow : exec (.nresetRelease r) s = .next (resetRelease (measure (readsServed s) r)) := rfl
  have hwaits : oldestRead s = none := by simp [oldestRead, running, hreset]
  rw [hrow, readsServed_none hwaits]
  simp only [resetRelease, measure, hreset, hpow, if_true, raiseHeld_eq, hevents, BitVec.zero_or, atRelease]

/-- Settles O16: the first evaluation on each side of the warning level, and the expiry test behind it. -/
theorem releaseOfResetRestarts : Obligations.ReleaseOfResetRestarts := by
  unfold Obligations.ReleaseOfResetRestarts
  intro s r hreset hpow hevents hdirHigh hholdsHigh hsupplyLow hwaiting hposting dir holds low
  rw [exec_nresetRelease hreset hpow hevents]
  have hflags : (atRelease s r).dirHigh = clearFlag ∧ (atRelease s r).holdsHigh = clearFlag ∧
      (atRelease s r).supplyLow = clearFlag := ⟨hdirHigh, hholdsHigh, hsupplyLow⟩
  obtain ⟨hdir, hholds, hsupply⟩ := hflags
  by_cases hlevel : r.vdd < warningMv s.records.limits.device.warning
  · have hlow : low = true := decide_eq_true hlevel
    have hbits : (0xC0#8 : BitVec 8) = 0x80#8 ||| 0x40#8 := by decide
    rw [firstEvaluation_low hdir hholds hsupply hlevel, expiryTest_eq, hbits, ← BitVec.or_assoc]
    simp [hlow, atRelease, running, hpow, hwaiting, hposting, dir, holds, dirHighTest, holdsHighTest]
  · have hlow : low = false := decide_eq_false hlevel
    rw [firstEvaluation_normal hdir hholds hsupply (Nat.le_of_not_lt hlevel), expiryTest_eq]
    simp [hlow, atRelease, running, hpow, hwaiting, hposting, dir, holds, dirHighTest, holdsHighTest, clearFlag]

end Sys2Proof.Machine
end

section
/-! PROOFS. The end of a posting (R68, R69, R80, R81, R86, R92, R93, R125, R187). -/

namespace Sys2Proof.Machine

/-! The slots answered -/

/-- From `s` to `t` slots were answered: they left the ACCEPTED slots and joined the end of the delivery order (R187). -/
def AnsweredOff (s t : State) (rest : List Answered) : Prop :=
  t.port.delivery = s.port.delivery ++ rest ∧
  t.port.accepted = s.port.accepted.filter (fun x => decide (x.place ∉ rest.map (fun b => b.slot.place)))

theorem AnsweredOff.of_port {s t : State} (h : t.port = s.port) : AnsweredOff s t [] := by
  simp [AnsweredOff, h]

theorem AnsweredOff.trans {s t u : State} {rest rest' : List Answered} (h : AnsweredOff s t rest)
    (k : AnsweredOff t u rest') : AnsweredOff s u (rest ++ rest') := by
  obtain ⟨hdelivery, haccepted⟩ := h
  obtain ⟨kdelivery, kaccepted⟩ := k
  refine ⟨by rw [kdelivery, hdelivery, List.append_assoc], ?_⟩
  rw [kaccepted, haccepted, List.filter_filter]
  refine List.filter_congr (fun x _ => ?_)
  rw [← Bool.decide_and]
  exact decide_eq_decide.2 (by rw [List.map_append, List.mem_append, not_or, and_comm])

theorem answerSlot_answeredOff (s : State) (q : Slot) (a : Answer) :
    AnsweredOff s (answerSlot s q a) [{ slot := q, answer := a }] := by
  simp [AnsweredOff]

/-! The waiting expiry request -/

theorem testedWaiting_some (s : State) (holds : List Hold) (id : Nat) : testedWaiting s none holds = some id ↔
    running s = true ∧ s.clock.state = .set ∧ ∃ h, holds.head? = some h ∧ h.deadline ≤ s.clock.value ∧ h.id = id := by
  unfold testedWaiting
  by_cases htests : running s = true ∧ s.clock.state = .set
  · simp [htests, Option.filter_eq_some_iff, and_assoc]
  · rw [if_neg (fun h => htests h.2)]
    exact ⟨nofun, fun ⟨hrun, hset, _⟩ => absurd ⟨hrun, hset⟩ htests⟩

/-- A head that is due stays due: the clock never goes back (R10, R68). -/
theorem Settled.testedWaiting_some {s t : State} (h : Settled s t) {id : Nat}
    (hid : testedWaiting s none s.records.holds = some id) : testedWaiting t none t.records.holds = some id := by
  rw [Machine.testedWaiting_some] at hid ⊢
  obtain ⟨hrun, hset, g, hhead, hdue, hgid⟩ := hid
  rw [h.running, h.records]
  rcases h.clock with hclock | ⟨hset', -, hlater⟩
  · exact ⟨hrun, hclock ▸ hset, g, hhead, hclock ▸ hdue, hgid⟩
  · exact ⟨hrun, hset', g, hhead, hdue.trans (hlater hset), hgid⟩

/-- From `s` to `t` the waiting request stood, or a head that was due in `t` became the request where none waited (R68). -/
def Tested (s t : State) : Prop :=
  t.expiryWaiting = s.expiryWaiting ∨
    s.expiryWaiting = none ∧ ∃ id, t.expiryWaiting = some id ∧ testedWaiting t none t.records.holds = some id

theorem Tested.trans {s t u : State} (h : Tested s t) (k : Tested t u) (hsettled : Settled t u) : Tested s u := by
  rcases h with h | ⟨hnone, id, hid, hdue⟩
  · rcases k with k | k
    · exact .inl (k.trans h)
    · rw [h] at k; exact .inr k
  · rcases k with k | ⟨knone, -⟩
    · exact .inr ⟨hnone, id, k.trans hid, hsettled.testedWaiting_some hdue⟩
    · rw [hid] at knone; cases knone

theorem expiryTest_waiting (s : State) :
    (expiryTest s).expiryWaiting = testedWaiting (expiryTest s) s.expiryWaiting (expiryTest s).records.holds := by
  have hsame := expiryTest_settled s
  unfold testedWaiting
  rw [hsame.running, hsame.records, expiryTest_clock, expiryTest_eq]
  exact if_congr (by rw [← and_assoc, and_comm]) rfl rfl

theorem expiryTest_tested {s t : State} (h : t.expiryWaiting = s.expiryWaiting) : Tested s (expiryTest t) := by
  have hwaiting := expiryTest_waiting t
  rw [h] at hwaiting
  cases hs : s.expiryWaiting with
  | none =>
    rw [hs] at hwaiting
    cases hid : (expiryTest t).expiryWaiting with
    | none => exact .inl (hid.trans hs.symm)
    | some id => exact .inr ⟨hs, id, hid, hwaiting.symm.trans hid⟩
  | some id =>
    rw [hs] at hwaiting
    exact .inl (hwaiting.trans ((if_neg (fun hn => by cases hn.1)).trans hs.symm))

/-- After what tested before, the Expiry Unit's test gives what it would have given from the start (R68). -/
theorem Tested.expiryTest {s t : State} (h : Tested s t) : (expiryTest t).expiryWaiting =
    testedWaiting (expiryTest t) s.expiryWaiting (expiryTest t).records.holds := by
  have hwaiting := expiryTest_waiting t
  rcases h with h | ⟨hnone, id, hid, hdue⟩
  · rw [← h]; exact hwaiting
  · rw [hid] at hwaiting
    rw [hnone, (expiryTest_settled t).testedWaiting_some hdue, hwaiting]
    exact if_neg (fun hn => by cases hn.1)

theorem takeSet_tested (s : State) (v : Nat) : Tested s (takeSet s v) := by
  unfold takeSet
  split
  · exact expiryTest_tested rfl
  · split
    · exact .inl rfl
    · refine expiryTest_tested ?_
      rw [alarmTest_eq]
      rfl

theorem serve_tested {i : Instr} {s t : State} {a : Answer} (h : serve i s = some (t, a)) : Tested s t := by
  cases i <;> simp only [serve, Option.some.injEq, Prod.mk.injEq, reduceCtorEq] at h
  case eventsClear =>
    obtain ⟨rfl, -⟩ := Prod.mk.inj h
    exact .inl rfl
  case clockSet v =>
    unfold serveClockSet at h
    split at h
    · obtain ⟨rfl, -⟩ := Prod.mk.inj h
      exact .inl rfl
    · obtain ⟨rfl, -⟩ := Prod.mk.inj h
      exact takeSet_tested s v
  all_goals
    obtain ⟨rfl, -⟩ := h
    exact .inl rfl

/-! What follows the response -/

/-- From `s` to `t` reads were served and slots answered, `rest` in this order (R86, R92, R93, R187). -/
structure Follows (s t : State) (rest : List Answered) : Prop where
  settled : Settled s t
  answered : AnsweredOff s t rest
  tested : Tested s t

theorem Follows.refl (s : State) : Follows s s [] := ⟨.refl s, .of_port rfl, .inl rfl⟩

theorem Follows.trans {s t u : State} {rest rest' : List Answered} (h : Follows s t rest) (k : Follows t u rest') :
    Follows s u (rest ++ rest') :=
  ⟨h.settled.trans k.settled, h.answered.trans k.answered, h.tested.trans k.tested k.settled⟩

theorem answerSlot_follows (s : State) (q : Slot) (a : Answer) :
    Follows s (answerSlot s q a) [{ slot := q, answer := a }] :=
  ⟨answerSlot_settled s q a, answerSlot_answeredOff s q a, .inl rfl⟩

theorem AnsweredAs.follows {s s1 : State} {q : Slot} {a : Answer} (h : AnsweredAs s s1 q a) : Follows s s1 [] := by
  obtain ⟨hsettled, hport⟩ := h.settled
  refine ⟨hsettled, .of_port hport, ?_⟩
  rcases h with ⟨i, -, hserve⟩ | ⟨-, rfl, -⟩
  · exact serve_tested hserve
  · exact .inl rfl

theorem settleOne_follows (s : State) (q : Slot) : ∃ rest, Follows s (settleOne s q) rest := by
  rcases settleOne_waits_or_answered s q with ⟨hstay, -⟩ | ⟨s1, a, has, hans⟩
  · rw [hstay]; exact ⟨_, .refl s⟩
  · rw [hans]; exact ⟨_, has.follows.trans (answerSlot_follows s1 q a)⟩

theorem settle_follows (s : State) : ∃ rest, Follows s (settle s) rest := by
  unfold settle
  generalize s.port.accepted = l
  induction l generalizing s with
  | nil => exact ⟨_, .refl s⟩
  | cons q l ih =>
    obtain ⟨rest, hone⟩ := settleOne_follows s q
    obtain ⟨rest', hmany⟩ := ih (settleOne s q)
    exact ⟨_, hone.trans hmany⟩

theorem placeAnswer_follows (s : State) (item : Item) (a : Option Answer) :
    ∃ rest, Follows s (placeAnswer s item a) rest := by
  unfold placeAnswer
  split
  · split
    · exact ⟨_, .refl s⟩
    · exact ⟨_, answerSlot_follows _ _ _⟩
  · exact ⟨_, .refl s⟩

/-! Answers without a read -/

/-- From `s` to `t` the clock, the close alarm and the raw events stood. -/
structure Quiet (s t : State) : Prop where
  clock : t.clock = s.clock
  alarmPending : t.alarmPending = s.alarmPending
  events : t.events = s.events

theorem Quiet.refl (s : State) : Quiet s s := ⟨rfl, rfl, rfl⟩

theorem Quiet.trans {s t u : State} (h : Quiet s t) (k : Quiet t u) : Quiet s u :=
  ⟨k.clock.trans h.clock, k.alarmPending.trans h.alarmPending, k.events.trans h.events⟩

theorem expiryTest_quiet (s : State) : Quiet s (expiryTest s) := by
  rw [expiryTest_eq]; exact ⟨rfl, rfl, rfl⟩

/-- A slot that holds no read is answered without serving anything (R92, R93). -/
theorem settleOne_quiet {s : State} {q : Slot} (h : isReadSlot q = false) : Quiet s (settleOne s q) := by
  rcases settleOne_waits_or_answered s q with ⟨hstay, -⟩ | ⟨s1, a, ⟨i, hi, hserve⟩ | ⟨-, rfl, -⟩, hans⟩
  · rw [hstay]; exact .refl s
  · simp only [isReadSlot, hi, isRead_iff_serve i s, hserve] at h
    cases h
  · rw [hans]; exact ⟨rfl, rfl, rfl⟩

theorem settle_quiet {s : State} (h : ∀ x ∈ s.port.accepted, isReadSlot x = false) : Quiet s (settle s) := by
  unfold settle
  generalize s.port.accepted = l at h
  induction l generalizing s with
  | nil => exact .refl s
  | cons q l ih =>
    exact (settleOne_quiet (h q List.mem_cons_self)).trans (ih (fun x hx => h x (List.mem_cons_of_mem _ hx)))

theorem placeAnswer_quiet (s : State) (item : Item) (a : Option Answer) : Quiet s (placeAnswer s item a) := by
  unfold placeAnswer
  split
  · split
    · exact .refl s
    · exact ⟨rfl, rfl, rfl⟩
  · exact .refl s

/-! The end of a posting -/

section Ending

variable {s : State} {p : Posting}

/-- What the end of a posting leaves of the state, but for what its answers and a comparison of the supply do to the port,
the clock, the close alarm, the raw events and the supply (R80, R81, R86). -/
structure PostingEnded (s : State) (p : Posting) (t : State) (rest : List Answered) : Prop where
  records : t.records = endedRecords s p
  posting : t.posting = none
  qual : t.qual = p.change.qual
  dirHigh : t.dirHigh = p.change.dirHigh
  holdsHigh : t.holdsHigh = p.change.holdsHigh
  lastKind : t.lastKind = s.lastKind
  delivery : t.port.delivery = s.port.delivery ++ endedSlot s p ++ rest
  accepted : t.port.accepted = s.port.accepted.filter
    (fun x => decide (x.place ∉ (endedSlot s p ++ rest).map (fun b => b.slot.place)))
  settledBy : SettledBy s t rest
  waiting : t.expiryWaiting = testedWaiting t (applyChange s p).expiryWaiting t.records.holds

theorem endPosting_ended (hp : s.posting = some p) (hok : SlotsOk s.port) : ∃ rest, PostingEnded s p (endPosting s) rest := by
  obtain ⟨rest, hrecords, hdelivery, hsettledBy, hsettled⟩ := endPosting_places hp hok
  have hfinish := finishState_applyChange s p
  obtain ⟨first, hfirst⟩ := placeAnswer_follows (finishState (applyChange s p) p) p.item (endedAnswer s p)
  obtain ⟨more, hmore⟩ := settle_follows (placed s p)
  have hall := (hfirst.trans hmore : Follows _ (settle (placed s p)) (first ++ more))
  have hport : (finishState (applyChange s p) p).port = s.port := (congrArg State.port hfinish :)
  have hwaiting := hall.tested.expiryTest
  obtain ⟨hdel, hacc⟩ := hall.answered
  rw [endPosting_eq hp] at *
  rw [hport] at hdel hacc
  rw [expiryTest_port, hdel, List.append_assoc] at hdelivery
  have hlist : first ++ more = endedSlot s p ++ rest := List.append_cancel_left hdelivery
  refine ⟨rest, hrecords, ?posting, ?qual, ?dirHigh, ?holdsHigh, ?lastKind, ?delivery, ?accepted, hsettledBy, ?waiting⟩
  case posting =>
    have hnone : (finishState (applyChange s p) p).posting = none := (congrArg State.posting hfinish :)
    rcases hsettled.posting with h | h
    · exact h.trans hnone
    · rw [hnone] at h; exact h
  case qual => exact hsettled.qual.trans (congrArg State.qual hfinish :)
  case dirHigh => exact hsettled.dirHigh.trans (congrArg State.dirHigh hfinish :)
  case holdsHigh => exact hsettled.holdsHigh.trans (congrArg State.holdsHigh hfinish :)
  case lastKind => exact hsettled.lastKind.trans (congrArg State.lastKind hfinish :)
  case delivery => rw [expiryTest_port, hdel, hlist, List.append_assoc]
  case accepted => rw [expiryTest_port, hacc, hlist]
  case waiting => rw [hwaiting, (congrArg State.expiryWaiting hfinish :)]

/-- A posting with nothing left for its end leaves the supply alone (R80). -/
theorem endPosting_supply (hp : s.posting = some p) (hok : SlotsOk s.port) (hplain : p.change.finish = .plain) :
    (endPosting s).supply = s.supply ∧ (endPosting s).guard = s.guard ∧ (endPosting s).supplyLow = s.supplyLow := by
  obtain ⟨-, -, -, -, hsettled⟩ := endPosting_places hp hok
  have hfinish : finishState (applyChange s p) p = applyChange s p := by simp only [finishState, hplain]
  rw [hfinish] at hsettled
  exact ⟨hsettled.supply, hsettled.guard, hsettled.supplyLow⟩

theorem finishState_events (h : p.change.finish ≠ .supplyLevels) :
    (finishState (applyChange s p) p).events = s.events ||| p.change.events := by
  cases hf : p.change.finish with
  | plain => simp only [finishState, hf]; rfl
  | supplyLevels => exact absurd hf h
  | clearSupplyLow c n =>
    simp only [finishState, hf, endDeviceClear]
    split
    · rfl
    · rfl

/-- Where no read is left waiting behind the response, nothing moves the clock, the close alarm or the raw events but the
posting itself (R125). -/
theorem endPosting_quiet (hp : s.posting = some p)
    (h : ∀ x ∈ (placed s p).port.accepted, isReadSlot x = false) :
    (endPosting s).clock = s.clock ∧
    (endPosting s).alarmPending = (if p.change.clearsAlarm then p.alarmFired else s.alarmPending) ∧
    (p.change.finish ≠ .supplyLevels → (endPosting s).events = s.events ||| p.change.events) := by
  have hfinish := finishState_applyChange s p
  have hquiet := (placeAnswer_quiet (finishState (applyChange s p) p) p.item (endedAnswer s p)).trans
    ((settle_quiet h).trans (expiryTest_quiet _))
  rw [endPosting_eq hp]
  exact ⟨hquiet.clock.trans (congrArg State.clock hfinish :), hquiet.alarmPending.trans (congrArg State.alarmPending hfinish :),
    fun hlevels => hquiet.events.trans (finishState_events hlevels)⟩

/-- The response of a link posting goes into its slot (R81). -/
theorem endedSlot_link {q : Slot} {a : Answer} (hok : SlotsOk s.port) (hitem : p.item = .slot q.place)
    (hq : q ∈ s.port.accepted) (hans : endedAnswer s p = some a) : endedSlot s p = [{ slot := q, answer := a }] := by
  have hfind : s.port.accepted.find? (fun x => decide (x.place = q.place)) = some q := by
    cases hf : s.port.accepted.find? (fun x => decide (x.place = q.place)) with
    | none => simpa using List.find?_eq_none.1 hf q hq
    | some x =>
      rw [hok.place_inj (List.mem_of_find?_eq_some hf) hq (by simpa using List.find?_some hf)]
  simp [endedSlot, hitem, hans, hfind]

/-- An internal posting places no response (R81). -/
theorem placed_internal (hanswer : p.answer = none) (hplain : p.change.finish = .plain) : placed s p = applyChange s p := by
  have hnone : endedAnswer s p = none := by simp only [endedAnswer, hplain, hanswer]
  have hfinish : finishState (applyChange s p) p = applyChange s p := by simp only [finishState, hplain]
  rw [placed, hnone, hfinish]
  unfold placeAnswer
  split
  · next h => cases h
  · rfl

theorem endedSlot_internal (hanswer : p.answer = none) (hplain : p.change.finish = .plain) : endedSlot s p = [] := by
  have hnone : endedAnswer s p = none := by simp only [endedAnswer, hplain, hanswer]
  unfold endedSlot
  rw [hnone]
  split
  · next h => cases h
  · rfl

/-- A link posting whose slot alone stands accepted lets no slot go on. -/
theorem endPosting_alone {q : Slot} {a : Answer} {rest : List Answered} (hp : s.posting = some p)
    (hitem : p.item = .slot q.place) (hacc : s.port.accepted = [q]) (hans : endedAnswer s p = some a)
    (hended : PostingEnded s p (endPosting s) rest) : (placed s p).port.accepted = [] ∧ rest = [] := by
  have hport : (finishState (applyChange s p) p).port = s.port :=
    (congrArg State.port (finishState_applyChange s p) :)
  have hplaced : (placed s p).port.accepted = [] := by
    simp [placed, placeAnswer, hitem, hans, hport, hacc]
  refine ⟨hplaced, ?_⟩
  have hdelivery := hended.delivery
  rw [endPosting_eq hp, expiryTest_port, settle_nil _ hplaced, placed, placeAnswer_delivery p hport] at hdelivery
  exact List.self_eq_append_right.1 hdelivery

end Ending

theorem exec_postingEnd {s : State} (hwaits : NoReadWaits s) (r : SupplyReading) :
    exec (.postingEnd r) s = .next (endPosting (measure s r)) :=
  congrArg (fun t => Host.Outcome.next (endPosting (measure t r))) (readsServed_none hwaits)

/-- Settles O18: the end applies the change-set, places the response and settles the slots; without a read behind it, it
moves no more than its change-set says. -/
theorem postingsEnd : Obligations.PostingsEnd := by
  unfold Obligations.PostingsEnd
  refine ⟨fun s r p q a hinv hwaits hp hkind hitem hq hans => ?_, fun s r p hwaits hp hanswer hplain => ?_⟩
  · have hp' : (measure s r).posting = some p := hp
    have hok : SlotsOk (measure s r).port := ((portInv_iff s).1 hinv).1
    have hans' : endedAnswer (measure s r) p = some a := hans
    have hslot := endedSlot_link hok hitem hq hans'
    obtain ⟨rest, ended⟩ := endPosting_ended hp' hok
    refine ⟨endPosting (measure s r), rest, exec_postingEnd hwaits r, ended.records, ended.posting, ended.qual,
      ended.dirHigh, ended.holdsHigh, ended.lastKind, ?delivery, ?accepted, ended.settledBy, ?waiting,
      endPosting_supply hp' hok, fun hacc => ?alone⟩
    case delivery => rw [ended.delivery, hslot, List.append_assoc]; rfl
    case accepted =>
      rw [ended.accepted, hslot]
      refine List.filter_congr (fun x _ => ?_)
      simp only [List.cons_append, List.nil_append, List.map_cons, List.mem_cons, not_or, ne_eq]
    case waiting =>
      have hwaiting : (applyChange (measure s r) p).expiryWaiting = s.expiryWaiting := if_neg (by rw [hkind]; decide)
      rw [ended.waiting, hwaiting]
    case alone =>
      obtain ⟨hplaced, hrest⟩ := endPosting_alone hp' hitem hacc hans' ended
      exact ⟨hrest, endPosting_quiet hp' (by rw [hplaced]; simp)⟩
  · intro waiting alarm
    have hp' : (measure s r).posting = some p := hp
    have hplaced : placed (measure s r) p = applyChange (measure s r) p := placed_internal hanswer hplain
    refine ⟨fun hinv => ?_, fun hrun hacc => ?_⟩
    · have hok : SlotsOk (measure s r).port := ((portInv_iff s).1 hinv).1
      have hslot : endedSlot (measure s r) p = [] := endedSlot_internal hanswer hplain
      obtain ⟨rest, ended⟩ := endPosting_ended hp' hok
      obtain ⟨hsupply, hguard, hlow⟩ := endPosting_supply hp' hok hplain
      have hrecords : endedRecords (measure s r) p = p.change.records := by simp only [endedRecords, hplain]
      have hdelivery := ended.delivery
      have haccepted := ended.accepted
      rw [hslot, List.append_nil] at hdelivery
      rw [hslot, List.nil_append] at haccepted
      refine ⟨endPosting (measure s r), rest, exec_postingEnd hwaits r, ended.records.trans hrecords, ended.posting,
        ended.qual, ended.dirHigh, ended.holdsHigh, ended.lastKind, hsupply, hguard, hlow, hdelivery, haccepted,
        ended.settledBy, ended.waiting, fun hreads => ?_⟩
      obtain ⟨hclock, halarm, hevents⟩ := endPosting_quiet hp' (by rw [hplaced]; exact hreads)
      exact ⟨hclock, halarm, hevents (by rw [hplain]; decide)⟩
    · have hsettle : settle (applyChange (measure s r) p) = applyChange (measure s r) p := settle_nil _ hacc
      have hrunning : running (applyChange (measure s r) p) = true := hrun
      rw [exec_postingEnd hwaits r, endPosting_eq hp', hplaced, hsettle, expiryTest_eq]
      simp only [hrunning, true_and]
      rfl

end Sys2Proof.Machine
end

section
/-! PROOFS. What the reads of periods answer (R95, R117, R123, R134, R191, R192). -/

namespace Sys2Proof.Machine

variable {s : State}

/-! Schedules -/

/-- The fields of a schedule, one after the other (R192). -/
theorem scheduleField_eq (sc : Schedule) : scheduleField sc =
    field 1 sc.tiers ++ field 5 sc.t1 ++ field 5 sc.t2 ++ field 5 sc.t3 ++ field 2 sc.c1 ++ field 2 sc.c2 ++
      field 2 sc.c3 ++ field 2 sc.c4 ++ field 2 sc.allowance := by
  simp only [scheduleField, scheduleBytes, List.map_append, map_some_beBytes]

theorem serve_scheduleRead (sel : Select) (src : ScheduleSource) :
    serve (.scheduleRead sel src) s = some (s, readScheduleOf sel src s) := rfl

theorem serve_scheduleRead_absent (h : s.records.closingBank.state = .absent) (sel : Select) :
    serve (.scheduleRead sel .closing) s = some (s, refuse .noStatement) := by
  rw [serve_scheduleRead, readScheduleOf, if_pos h]

theorem serve_scheduleRead_closing (h : s.records.closingBank.state ≠ .absent) (sel : Select) :
    serve (.scheduleRead sel .closing) s =
      some (s, answer .ok (scheduleField (bankSchedule s.records.closingBank sel))) := by
  rw [serve_scheduleRead, readScheduleOf, if_neg h]

/-! Statements -/

theorem serve_statementRead_absent (h : s.records.closingBank.state = .absent) (m p : Nat) :
    serve (.statementRead m p) s = some (s, refuse .noStatement) := by
  simp only [serve, readStatement, h]

theorem serve_statementRead_computing (h : s.records.closingBank.state = .computing) (m p : Nat) :
    serve (.statementRead m p) s = some (s, refuse .notReady) := by
  simp only [serve, readStatement, h]

theorem serve_statementRead_ready (h : s.records.closingBank.state = .ready) (m p : Nat) :
    serve (.statementRead m p) s = some (s, readReady s.records.closingBank m p) := by
  simp only [serve, readStatement, h]

theorem readReady_uncaptured {r : Records} {m : Nat} (h : (closingEntry r m).captured = none) (p : Nat) :
    readReady r.closingBank m p = refuse .noStatement := by
  have hentry : (tableGet zeroEntry r.closingBank.entries m).captured = none := h
  simp only [readReady, hentry]

theorem readReady_captured {r : Records} {m : Nat} {sel : Select} {st : Statement}
    (hsel : (closingEntry r m).captured = some sel) (hst : (closingEntry r m).statement = some st) (p : Nat) :
    readReady r.closingBank m p = answer .ok (statementPage r.closingBank.period (closingEntry r m) sel st p) := by
  have hentry : tableGet zeroEntry r.closingBank.entries m = closingEntry r m := rfl
  simp only [readReady, hentry, hsel, hst]

/-! Totals -/

theorem serve_totalsRead (p : Nat) : serve (.totalsRead p) s = some (s, readTotals p s) := rfl

theorem flagField_eq (b : Bool) : flagField b = field 1 b.toNat := rfl

/-- The closing bank's header while it stands (R192). -/
theorem totalsPage2_standing {b : Bank} {closed next : Nat} {out : Int} (h : b.state ≠ .absent)
    (hclosed : b.closedAt = some closed) (hout : b.closedOutstanding = some out) (hnext : b.nextMerchant = some next) :
    totalsPage2 b = field 1 b.period ++ field 1 (bankStateCode b.state) ++ field 4 closed ++ posField out ++
      field 1 b.saturated.toNat ++ field 2 next := by
  simp only [totalsPage2, if_neg h, hclosed, hout, hnext, flagField_eq, Option.getD_some, List.append_assoc]

theorem totalsPage3_standing {b : Bank} (h : b.state ≠ .absent) : totalsPage3 b =
    field 1 b.period ++ field 4 b.openedAt ++ posField b.openingOutstanding ++ posField b.retiredInPeriod := by
  simp only [totalsPage3, if_neg h, List.append_assoc]

/-- An ABSENT closing bank reads as 0 beside its period number and its state (R117). -/
theorem totalsPages_absent {b : Bank} (h : b.state = .absent) :
    totalsPage2 b = field 1 b.period ++ field 1 0 ++ List.replicate 14 (some 0x00#8) ∧
    totalsPage3 b = field 1 b.period ++ List.replicate 16 (some 0x00#8) := by
  rw [totalsPage2, totalsPage3, if_pos h, if_pos h, h]
  exact ⟨rfl, rfl⟩

/-- Settles O52, read by read. -/
theorem readsAnswerForPeriods : Obligations.ReadsAnswerForPeriods := by
  unfold Obligations.ReadsAnswerForPeriods
  intro s t o b schedule
  have hschedule : ∀ sc, schedule sc = answer .ok (scheduleField sc) := fun sc => by rw [scheduleField_eq]
  simp only [hschedule]
  refine ⟨rfl, rfl, ?stagedA, ?stagedB, fun sel h => serve_scheduleRead_absent h sel,
    fun h => ⟨serve_scheduleRead_closing h .a, serve_scheduleRead_closing h .b⟩, fun m p h => serve_statementRead_absent h m p,
    fun m p h => serve_statementRead_computing h m p, fun m p h huncaptured => ?uncaptured,
    fun m sel st h hsel hst => ?captured, rfl, rfl, fun h => ?absent,
    fun h => ⟨fun closed out next hc ho hn => ?page2, ?page3⟩⟩
  case stagedA => rw [serve_scheduleRead, readScheduleOf, stagedField, apply_ite (answer .ok)]
  case stagedB => rw [serve_scheduleRead, readScheduleOf, stagedField, apply_ite (answer .ok)]
  case uncaptured => rw [serve_statementRead_ready h, readReady_uncaptured huncaptured]
  case captured =>
    have hpage := fun p => (serve_statementRead_ready h m p).trans (by rw [readReady_captured hsel hst])
    exact ⟨(hpage 0).trans rfl, (hpage 1).trans rfl, (hpage 2).trans rfl⟩
  case absent =>
    obtain ⟨page2, page3⟩ := totalsPages_absent h
    rw [← page2, ← page3]
    exact ⟨rfl, rfl⟩
  case page2 => rw [← totalsPage2_standing h hc ho hn]; rfl
  case page3 => rw [← totalsPage3_standing h]; rfl

end Sys2Proof.Machine
end

section
/-! PROOFS. Which grants the rotation makes (R80, R89 to R91, R177, R178). -/

namespace Sys2Proof.Machine

/-! Grants that are not made -/

/-- The arbiter grants an item of a kind now (R89, R90). -/
def Grants (s : State) (k : Kind) (item : Item) : Prop := arbiterChoice s = some k ∧ candidate s k = some item

theorem grantInternal_not_granted {s : State} {k : Kind} {item : Item} (h : ¬ Grants s k item) (body : Draft → Draft) :
    grantInternal s k item body = s :=
  (grantInternal_cases s k item body).resolve_right (fun ⟨hchoice, hitem, _⟩ => h ⟨hchoice, hitem⟩)

/-- What bars every grant of an item, for a statement step the clock apart (R80, R91, R177, R178). -/
theorem not_grants_of_barred {s : State} {k : Kind} {item : Item}
    (h : s.supply = some .parked ∨ s.nResetLow = true ∨ s.powered = false ∨ s.posting.isSome = true ∨
      s.clock.state = .unset ∧ needsClock item = true) : ¬ Grants s k item := by
  rintro ⟨hchoice, hitem⟩
  obtain ⟨hmay, hgrantable, -⟩ := arbiterChoice_some hchoice
  obtain ⟨⟨⟨hpow, hreset⟩, hfree⟩, hsupply⟩ :
      ((s.powered = true ∧ s.nResetLow = false) ∧ s.posting = none) ∧ s.supply ≠ some .parked := by
    simpa [mayGrant, running] using hmay
  rcases h with h | h | h | h | ⟨hunset, hneeds⟩
  · exact hsupply h
  · rw [hreset] at h; cases h
  · rw [hpow] at h; cases h
  · rw [hfree] at h; cases h
  · have hset := grantable_needs_set hgrantable hitem hneeds
    rw [hunset] at hset
    cases hset

/-! The rows of grants -/

/-- The row of a request of the Posting class changes nothing unless Link is granted its slot (R89, R90). -/
theorem exec_request_not_granted {i : Instr} {s : State} (hreq : isRequest i = true) (hread : isRead i = false)
    (hwaits : NoReadWaits s) (h : ∀ q, requestOf q = some i → linkCandidate s = some q → ¬ Grants s .link (.slot q.place)) :
    exec i s = .next s := by
  obtain ⟨body, hrow⟩ := exec_posting hreq hread
  rw [hrow, readsServed_none hwaits]
  rcases grantLink_cases s i body with hstay | ⟨q, hchoice, hcandidate, hrequest, -⟩
  · rw [hstay]
  · exact absurd ⟨hchoice, by rw [candidate, hcandidate]; rfl⟩ (h q hrequest hcandidate)

theorem exec_expiryPosting_not_granted {s : State} (hwaits : NoReadWaits s)
    (h : ∀ id, ¬ Grants s .expiry (.hold id)) : exec .expiryPosting s = .next s := by
  have hrow : exec .expiryPosting s = .next (expiryGrant (readsServed s)) := rfl
  rw [hrow, readsServed_none hwaits, expiryGrant]
  split
  · rfl
  · rw [grantInternal_not_granted (h _)]

theorem exec_alarmCutover_not_granted {s : State} (hwaits : NoReadWaits s) (h : ¬ Grants s .settlement .alarm) :
    exec .alarmCutover s = .next s := by
  have hrow : exec .alarmCutover s =
      .next (grantInternal (readsServed s) .settlement .alarm postAlarmCutover) := rfl
  rw [hrow, readsServed_none hwaits, grantInternal_not_granted h]

theorem exec_latchPosting_not_granted {s : State} (hwaits : NoReadWaits s)
    (h : ∀ q, latchDue s = some q → ¬ Grants s .settlement (.latch q.merchant)) : exec .latchPosting s = .next s := by
  have hrow : exec .latchPosting s = .next (latchGrant (readsServed s)) := rfl
  rw [hrow, readsServed_none hwaits, latchGrant]
  split
  · rfl
  · next q hq => rw [grantInternal_not_granted (h q hq)]

theorem exec_statementStep_not_granted {s : State} (hwaits : NoReadWaits s)
    (h : ∀ m, ¬ Grants s .settlement (.step m)) : exec .statementStep s = .next s := by
  have hrow : exec .statementStep s = .next (stepGrant (readsServed s)) := rfl
  rw [hrow, readsServed_none hwaits, stepGrant]
  split
  · rfl
  · rw [grantInternal_not_granted (h _)]

/-- A grant is one of the four internal postings, or a request of the Posting class (R80, R83). -/
theorem isGrant_cases {i : Instr} (h : isGrant i = true) :
    i = .expiryPosting ∨ i = .alarmCutover ∨ i = .statementStep ∨ i = .latchPosting ∨
      isRequest i = true ∧ isRead i = false := by
  unfold isGrant at h
  split at h
  case h_1 => exact .inl rfl
  case h_2 => exact .inr (.inl rfl)
  case h_3 => exact .inr (.inr (.inl rfl))
  case h_4 => exact .inr (.inr (.inr (.inl rfl)))
  case h_5 => exact .inr (.inr (.inr (.inr (by simpa using h))))

/-- The row of a grant changes nothing where the grant is barred (R80, R91, R177, R178). -/
theorem exec_barred {i : Instr} {s : State} (hgrant : isGrant i = true) (hwaits : NoReadWaits s)
    (h : s.supply = some .parked ∨ s.nResetLow = true ∨ s.powered = false ∨ s.posting.isSome = true ∨
      s.clock.state = .unset ∧ i ≠ .statementStep) : exec i s = .next s := by
  have barred : ∀ (k : Kind) (item : Item), (i ≠ .statementStep → needsClock item = true) → ¬ Grants s k item :=
    fun k item hneeds => not_grants_of_barred (h.imp_right (.imp_right (.imp_right (.imp_right (.imp_right hneeds)))))
  rcases isGrant_cases hgrant with rfl | rfl | rfl | rfl | ⟨hreq, hread⟩
  · exact exec_expiryPosting_not_granted hwaits (fun id => barred _ _ (fun _ => rfl))
  · exact exec_alarmCutover_not_granted hwaits (barred _ _ (fun _ => rfl))
  · exact exec_statementStep_not_granted hwaits (fun m => barred _ _ (fun hne => absurd rfl hne))
  · exact exec_latchPosting_not_granted hwaits (fun q _ => barred _ _ (fun _ => rfl))
  · exact exec_request_not_granted hreq hread hwaits (fun q _ _ => barred _ _ (fun _ => rfl))

/-! The rotation -/

/-- The first element that passes a test stands before every other that passes it. -/
theorem findIdx_find?_le {α : Type} [DecidableEq α] {p : α → Bool} {l : List α} {a b : α} (ha : l.find? p = some a)
    (hb : p b = true) : l.findIdx (fun x => decide (x = a)) ≤ l.findIdx (fun x => decide (x = b)) := by
  induction l with
  | nil => cases ha
  | cons x rest ih =>
    cases hx : p x with
    | true =>
      rw [List.find?_cons_of_pos hx] at ha
      simp [Option.some.inj ha, List.findIdx_cons]
    | false =>
      rw [List.find?_cons_of_neg (by rw [hx]; exact Bool.false_ne_true)] at ha
      have hxa : x ≠ a := fun he => by
        have hpa := List.find?_some ha
        rw [← he, hx] at hpa
        cases hpa
      have hxb : x ≠ b := fun he => by rw [he, hb] at hx; cases hx
      simpa [List.findIdx_cons, hxa, hxb] using ih ha

/-- Every kind stands in the rotation (R90). -/
theorem mem_rotation (last k : Kind) : k ∈ rotation last := by
  cases last <;> cases k <;> decide

theorem arbiterChoice_eq {s : State} (h : mayGrant s = true) :
    arbiterChoice s = (rotation s.lastKind).find? (grantable s) := if_pos h

theorem arbiterChoice_none_iff {s : State} (h : mayGrant s = true) :
    arbiterChoice s = none ↔ ∀ k, grantable s k = false := by
  rw [arbiterChoice_eq h, List.find?_eq_none]
  exact ⟨fun hnone k => by simpa using hnone k (mem_rotation _ k), fun hall k _ => by simp [hall k]⟩

/-! The Settlement candidate -/

/-- The Settlement kind's candidate is a cutover only while the alarm is pending, a latch posting only without one, and a
statement step only without either, of a bank that is COMPUTING (R89). -/
theorem settlementCandidate_eq_some {s : State} {item : Item} (h : settlementCandidate s = some item) :
    s.alarmPending = true ∧ item = .alarm ∨
      s.alarmPending = false ∧ ((∃ q, latchDue s = some q ∧ item = .latch q.merchant) ∨
        latchDue s = none ∧ s.records.closingBank.state = .computing ∧ ∃ m, item = .step m) := by
  unfold settlementCandidate at h
  split at h
  · next halarm => exact .inl ⟨halarm, (Option.some.inj h).symm⟩
  · next halarm =>
    refine .inr ⟨by simpa using halarm, ?_⟩
    split at h
    · next q hq => exact .inl ⟨q, hq, (Option.some.inj h).symm⟩
    · next hdue =>
      split at h
      · next hcomputing =>
        obtain ⟨m, -, hm⟩ := Option.map_eq_some_iff.1 h
        exact .inr ⟨hdue, hcomputing, m, hm.symm⟩
      · cases h

theorem grants_alarm {s : State} (h : Grants s .settlement .alarm) : s.alarmPending = true := by
  rcases settlementCandidate_eq_some h.2 with ⟨halarm, -⟩ | ⟨-, ⟨q, -, hitem⟩ | ⟨-, -, m, hitem⟩⟩
  · exact halarm
  · cases hitem
  · cases hitem

theorem grants_latch {s : State} {m : Nat} (h : Grants s .settlement (.latch m)) : s.alarmPending = false := by
  rcases settlementCandidate_eq_some h.2 with ⟨-, hitem⟩ | ⟨halarm, -⟩
  · cases hitem
  · exact halarm

theorem grants_step {s : State} {m : Nat} (h : Grants s .settlement (.step m)) :
    s.alarmPending = false ∧ latchDue s = none ∧ s.records.closingBank.state = .computing := by
  rcases settlementCandidate_eq_some h.2 with ⟨-, hitem⟩ | ⟨halarm, ⟨q, -, hitem⟩ | ⟨hdue, hcomputing, -⟩⟩
  · cases hitem
  · cases hitem
  · exact ⟨halarm, hdue, hcomputing⟩

theorem latchDue_eq_some_iff (s : State) (q : Qual) :
    latchDue s = some q ↔ s.qual.head? = some q ∧ s.clock.state = .set ∧ q.due ≤ s.clock.value := by
  unfold latchDue
  split
  · next hnone => simp [hnone]
  · next k hhead =>
    rw [hhead, Option.ite_none_right_eq_some, Option.some.injEq]
    constructor
    · rintro ⟨hdue, rfl⟩
      exact ⟨rfl, hdue⟩
    · rintro ⟨rfl, hdue⟩
      exact ⟨hdue, rfl⟩

/-- Settles O17: a row that changes anything is a grant of its item, which neither a bar nor the rotation allows here. -/
theorem grantsFollowTheRotation : Obligations.GrantsFollowTheRotation := by
  unfold Obligations.GrantsFollowTheRotation
  refine ⟨fun i s => exec_barred, fun s hmay => ⟨fun k hchoice => ?_, arbiterChoice_none_iff hmay, rfl, rfl, rfl⟩,
    fun i s hreq hread hwaits h => ?request, fun s hwaits h => ?expiry, fun s hwaits h => ?alarm,
    fun s hwaits h => ?latch, fun s hwaits h => ?step⟩
  · rw [arbiterChoice_eq hmay] at hchoice
    exact ⟨List.find?_some hchoice, fun k' hk' => findIdx_find?_le hchoice hk'⟩
  case request =>
    refine exec_request_not_granted hreq hread hwaits (fun q hrequest hcandidate hgrants => ?_)
    rcases h with h | h
    · exact h hgrants.1
    · exact h q hcandidate hrequest
  case expiry => exact exec_expiryPosting_not_granted hwaits (fun id hgrants => h hgrants.1)
  case alarm =>
    refine exec_alarmCutover_not_granted hwaits (fun hgrants => ?_)
    rcases h with h | h
    · exact h hgrants.1
    · rw [grants_alarm hgrants] at h; cases h
  case latch =>
    refine exec_latchPosting_not_granted hwaits (fun q hdue hgrants => ?_)
    obtain ⟨hhead, hset, htime⟩ := (latchDue_eq_some_iff s q).1 hdue
    rcases h with h | h | h
    · exact h hgrants.1
    · rw [grants_latch hgrants] at h; cases h
    · rcases h q hhead with hunset | hlater
      · rw [hset] at hunset; cases hunset
      · exact Nat.not_le_of_lt hlater htime
  case step =>
    refine exec_statementStep_not_granted hwaits (fun m hgrants => ?_)
    obtain ⟨halarm, hnone, hcomputing⟩ := grants_step hgrants
    rcases h with h | h | ⟨k, hhead, hset, htime⟩ | h
    · exact h hgrants.1
    · rw [halarm] at h; cases h
    · rw [(latchDue_eq_some_iff s k).2 ⟨hhead, hset, htime⟩] at hnone; cases hnone
    · exact h hcomputing

end Sys2Proof.Machine
end

section
/-! PROOFS. The stop of the device (R81, R160, R170, R177). -/

namespace Sys2Proof.Machine

/-- Beyond its changes and what is left for its end, the end of a posting serves reads and answers slots, and does nothing
else (R80, R81, R86). -/
theorem endPosting_settled {s : State} {p : Posting} (hp : s.posting = some p) :
    Settled (finishState (applyChange s p) p) (endPosting s) := by
  rw [endPosting_eq hp]
  exact (placed_settled s p).trans ((settle_settled _).trans (expiryTest_settled _))

theorem endPosting_idle {s : State} (h : s.posting = none) : endPosting s = s := by simp only [endPosting, h]

/-- A loss of the volatile state leaves nothing of what was served and answered before it (R177). -/
theorem blank_settled {s t : State} (h : Settled s t) : blank t = blank s := by
  unfold blank
  rw [h.records, h.reading, h.vhold, h.powered, h.nResetLow, h.nSelLow, h.pending, h.portRest]

/-- Of the end of a posting a loss of the volatile state leaves the records alone (R177). -/
theorem blank_endPosting {s : State} {p : Posting} (hp : s.posting = some p) :
    blank (endPosting s) = { blank s with records := endedRecords s p } := by
  rw [blank_settled (endPosting_settled hp), finishState_applyChange]
  rfl

theorem stopDevice_stops {s : State} (hpow : s.powered = true) (h : s.reading.vdd < 2700) :
    stopDevice s = { blank (endPosting s) with powered := false } := by
  unfold stopDevice
  rw [if_pos (by simp [hpow, stopMv, h])]
  rfl

theorem stopDevice_runs {s : State} (h : 2700 ≤ s.reading.vdd) : stopDevice s = s := by
  unfold stopDevice
  rw [if_neg (by simp [stopMv, Nat.not_lt_of_le h])]

/-- A DEVICE clear clears a condition exactly when its count at the grant is not 0, or SUPPLY_LOW is latched and not live
(R160; entry 9). -/
theorem clearCounts_zero_iff (s : State) (c n : Nat) :
    (clearCounts s c n).1 = 0 ↔ c = 0 ∧ ¬ (s.supplyLow.latched = true ∧ s.supplyLow.live = false) := by
  unfold clearCounts
  cases s.supplyLow.latched <;> cases s.supplyLow.live <;> simp

theorem endedRecords_plain {p : Posting} (h : p.change.finish = .plain) (s : State) :
    endedRecords s p = p.change.records := by
  simp only [endedRecords, h]

theorem endedRecords_levels {p : Posting} (h : p.change.finish = .supplyLevels) (s : State) :
    endedRecords s p = p.change.records := by
  simp only [endedRecords, h]

/-- A DEVICE clear's floor is written if it cleared something (R160). -/
theorem endedRecords_clear {p : Posting} {c n : Nat} (h : p.change.finish = .clearSupplyLow c n) (s : State) :
    endedRecords s p = { p.change.records with totals := { p.change.records.totals with floor :=
      if c = 0 ∧ ¬ (s.supplyLow.latched = true ∧ s.supplyLow.live = false) then p.change.records.totals.floor
      else p.change.now } } := by
  simp only [endedRecords, h, ← clearCounts_zero_iff s c n]
  split
  · rfl
  · rfl

theorem exec_supplyStop {s : State} (hwaits : NoReadWaits s) (r : SupplyReading) :
    exec (.supplyStop r) s = .next (stopDevice (measure s r)) :=
  congrArg (fun t => Host.Outcome.next (stopDevice (measure t r))) (readsServed_none hwaits)

/-- Settles O13: the stop is the end of the posting in flight, of which only the records outlive the volatile state. -/
theorem stopLosesVolatileState : Obligations.StopLosesVolatileState := by
  unfold Obligations.StopLosesVolatileState
  intro s r hpow hwaits
  have hpow' : (measure s r).powered = true := hpow
  rw [exec_supplyStop hwaits r]
  refine ⟨fun hlow hidle => ?_, fun p hlow hp => ?_, fun p => ?_, fun hhigh => ?_⟩
  · rw [stopDevice_stops hpow' hlow, endPosting_idle (s := measure s r) hidle]
    rfl
  · rw [stopDevice_stops hpow' hlow, blank_endPosting (s := measure s r) hp]
    rfl
  · cases hf : p.change.finish with
    | plain => exact endedRecords_plain hf s
    | supplyLevels => exact endedRecords_levels hf s
    | clearSupplyLow c n => exact endedRecords_clear hf s
  · rw [stopDevice_runs (s := measure s r) hhigh]
    rfl

end Sys2Proof.Machine
end

section
/-! PROOFS. A step runs the front command, and no command touches the queue behind it (entries 1, 3, 28). -/

namespace Sys2Proof.Machine

/-! Pieces of a step leave the queue -/

theorem selFall_pending (s : State) : (selFall s).pending = s.pending := by
  unfold selFall
  (repeat' split) <;> rfl

theorem answerBlocked_pending (s : State) (q : Slot) : (answerBlocked s q).pending = s.pending := by
  unfold answerBlocked
  (repeat' split) <;> rfl

theorem goOn_pending (s : State) (code tag : Byte) (ps : List Byte) (i : Instr) :
    (goOn s code tag ps i).pending = s.pending := by
  unfold goOn
  simp only
  split
  · rfl
  · exact answerBlocked_pending _ _

theorem accept_pending (s : State) (code tag : Byte) (ps : List Byte) : (accept s code tag ps).pending = s.pending := by
  unfold accept
  split
  · rfl
  · rfl
  · rfl
  · exact goOn_pending _ _ _ _ _

theorem deliver_pending (s : State) (sdi : List Bool) : (deliver s sdi).pending = s.pending := by
  unfold deliver
  (repeat' split) <;> rfl

theorem judgeFrame_pending (s : State) (sdi : List Bool) : (judgeFrame s sdi).pending = s.pending := by
  unfold judgeFrame
  split
  · rfl
  · split
    · split
      · rfl
      · split
        · exact accept_pending _ _ _ _
        · rfl
    · rfl

theorem selRise_pending (sdi : List Bool) (s : State) : (selRise sdi s).pending = s.pending := by
  unfold selRise
  split
  · simp only
    split
    · exact (judgeFrame_pending _ _).trans (deliver_pending _ _)
    · rfl
  · rfl

theorem tickClock_pending (s : State) : (tickClock s).pending = s.pending := by
  unfold tickClock
  split
  · exact ((alarmTest_settled _ _ _).trans (expiryTest_settled _)).pending
  · rfl

theorem grantLink_pending (s : State) (i : Instr) (body : Draft → Draft × Answer) :
    (grantLink s i body).pending = s.pending := by
  rcases grantLink_cases s i body with h | ⟨q, -, -, -, h⟩ <;> rw [h]
  rfl

theorem grantInternal_pending (s : State) (k : Kind) (item : Item) (body : Draft → Draft) :
    (grantInternal s k item body).pending = s.pending := by
  rcases grantInternal_cases s k item body with h | ⟨-, -, h⟩ <;> rw [h]
  rfl

theorem expiryGrant_pending (s : State) : (expiryGrant s).pending = s.pending := by
  unfold expiryGrant
  split
  · rfl
  · exact grantInternal_pending _ _ _ _

theorem stepGrant_pending (s : State) : (stepGrant s).pending = s.pending := by
  unfold stepGrant
  split
  · rfl
  · exact grantInternal_pending _ _ _ _

theorem latchGrant_pending (s : State) : (latchGrant s).pending = s.pending := by
  unfold latchGrant
  split
  · rfl
  · exact grantInternal_pending _ _ _ _

theorem endPosting_pending (s : State) : (endPosting s).pending = s.pending := by
  cases hp : s.posting with
  | none => rw [endPosting_idle hp]
  | some p =>
    have hfinish : (finishState (applyChange s p) p).pending = s.pending :=
      (congrArg State.pending (finishState_applyChange s p) :)
    exact (endPosting_settled hp).pending.trans hfinish

theorem resetFall_pending (s : State) : (resetFall s).pending = s.pending := by
  unfold resetFall
  split
  · rfl
  · split
    · exact endPosting_pending s
    · rfl

theorem evaluations_pending (s : State) : (evalTables (firstEvaluation s)).pending = s.pending := by
  have hfirst : (evalTables (firstEvaluation s)).pending = (firstEvaluation s).pending := rfl
  rw [hfirst, firstEvaluation]
  split
  · rfl
  · rfl

theorem resetRelease_pending (s : State) : (resetRelease s).pending = s.pending := by
  unfold resetRelease
  split
  · simp only
    split
    · rw [(expiryTest_settled _).pending, evaluations_pending, raiseHeld_eq]
    · rfl
  · rfl

theorem powerOn_pending (s : State) : (powerOn s).pending = s.pending := by
  unfold powerOn
  split
  · simp only
    split
    · rfl
    · exact evaluations_pending _
  · rfl

theorem stopDevice_pending (s : State) : (stopDevice s).pending = s.pending := by
  unfold stopDevice
  split
  · exact endPosting_pending s
  · rfl

theorem supplyFall_pending (s : State) : (supplyFall s).pending = s.pending := by
  unfold supplyFall
  split
  · rfl
  · rfl

theorem supplyRise_pending (s : State) : (supplyRise s).pending = s.pending := by
  unfold supplyRise
  split
  · unfold enterNormal
    simp only
    split
    · rfl
    · rfl
  · rfl

theorem guardRunsOut_pending (s : State) : (guardRunsOut s).pending = s.pending := by
  unfold guardRunsOut
  split
  · exact (answerParked_settled _).pending
  · rfl

/-! Rows -/

/-- Every command answers a next state. -/
theorem exec_next (i : Instr) (s : State) : ∃ t, exec i s = .next t := by cases i <;> exact ⟨_, rfl⟩

/-- No command touches the queue: it serves a read, grants a posting or does what its own piece does. -/
theorem exec_pending {i : Instr} {s t : State} (h : exec i s = .next t) : t.pending = s.pending := by
  have served : (readsServed s).pending = s.pending := (readsServed_settled s).pending
  by_cases hread : isRead i = true
  · exact (exec_read_settled hread h).pending
  rw [Bool.not_eq_true] at hread
  by_cases hreq : isRequest i = true
  · obtain ⟨body, hrow⟩ := exec_posting hreq hread
    obtain rfl := Host.Outcome.next.inj ((hrow s).symm.trans h)
    exact (grantLink_pending _ _ _).trans served
  cases i <;> first
    | exact absurd rfl hreq
    | obtain rfl := Host.Outcome.next.inj h
  case nselFall => exact (selFall_pending _).trans served
  case nselRise sdi => exact (selRise_pending sdi _).trans served
  case tick => exact (tickClock_pending _).trans served
  case expiryPosting => exact (expiryGrant_pending _).trans served
  case alarmCutover => exact (grantInternal_pending _ _ _ _).trans served
  case statementStep => exact (stepGrant_pending _).trans served
  case latchPosting => exact (latchGrant_pending _).trans served
  case nresetFall => exact (resetFall_pending _).trans served
  case nresetRelease r => exact (resetRelease_pending _).trans served
  case powerUp r charged => exact (powerOn_pending _).trans served
  case supplyStop r => exact (stopDevice_pending _).trans served
  case supplyBelowWarning r => exact (supplyFall_pending _).trans served
  case supplyAboveRecovery r => exact (supplyRise_pending _).trans served
  case guardTimerRunsOut r => exact (guardRunsOut_pending _).trans served
  case postingEnd r => exact (endPosting_pending _).trans served

/-- Settles O1: the step takes the front of the queue, and every row leaves the rest. -/
theorem stepRunsTheFrontCommand : Obligations.StepRunsTheFrontCommand := by
  unfold Obligations.StepRunsTheFrontCommand
  refine ⟨fun c rest s => rfl, fun s hempty => by rw [step, hempty], fun i s => ?_⟩
  obtain ⟨t, hrow⟩ := exec_next i s
  exact ⟨t, hrow, exec_pending hrow⟩

end Sys2Proof.Machine
end

section
/-! PROOFS. The entry to PARKED, and the serving of the reads (R83, R85, R86, R92, R93, R171, R174, R187). -/

namespace Sys2Proof.Machine

/-! What a settling answers -/

/-- What a settling answered are the slots it serves or answers by their class, in acceptance order (R86, R92, R93). -/
theorem Follows.settledBy {s : State} {rest : List Answered} (h : Follows s (settle s) rest) (hok : SlotsOk s.port) :
    SettledBy s (settle s) rest := by
  obtain ⟨rest', hdelivery, hsettled⟩ := settle_settledBy hok
  have hsame : rest' = rest := List.append_cancel_left (hdelivery.symm.trans h.answered.1)
  exact hsame ▸ hsettled

/-- What is settled after other answers is settled as seen from before them (R86). -/
theorem SettledBy.before {s u t : State} {rest : List Answered} (h : SettledBy u t rest)
    (hacc : u.port.accepted.Sublist s.port.accepted) (hu : u.clock.state = .unset → s.clock.state = .unset) :
    SettledBy s t rest := by
  obtain ⟨hsub, hans, hwaits⟩ := (settledBy_iff _ _ _).1 h
  exact (settledBy_iff _ _ _).2 ⟨hsub.trans hacc, fun a ha => (hans a ha).of_unset hu, hwaits⟩

theorem isReadSlot_of_posting {q : Slot} (h : isPostingSlot q = true) : isReadSlot q = false := by
  unfold isPostingSlot at h
  unfold isReadSlot
  cases hi : requestOf q with
  | none => rfl
  | some i => simpa [hi] using h

theorem isReadSlot_of_served {q : Slot} {i : Instr} {s t : State} {a : Answer} (hi : requestOf q = some i)
    (h : serve i s = some (t, a)) : isReadSlot q = true := by
  have hread : isRead i = true := by rw [isRead_iff_serve i s, h]; rfl
  simp only [isReadSlot, hi, hread]

/-- A request of the Posting class whose posting is in flight is not answered by a settling (R81). -/
theorem foldl_settleOne_keeps {q : Slot} (hposting : isPostingSlot q = true) (l : List Slot) (s : State)
    (hone : ∀ x ∈ l, x.place = q.place → x = q) (hq : q ∈ s.port.accepted) (hflight : inFlight s q = true) :
    q ∈ (l.foldl settleOne s).port.accepted := by
  induction l generalizing s with
  | nil => exact hq
  | cons x l ih =>
    have hstays : settleOne s q = s := settleOne_stays (fun _ => ⟨isReadSlot_of_posting hposting, fun _ => .inl hflight⟩)
    refine ih (settleOne s x) (fun y hy => hone y (List.mem_cons_of_mem _ hy)) ?_
      (((settleOne_settled s x).inFlight q).trans hflight)
    by_cases hplace : x.place = q.place
    · rw [hone x List.mem_cons_self hplace, hstays]
      exact hq
    · exact settleOne_accepted s x q hq (Ne.symm hplace)

theorem settle_keeps {s : State} {q : Slot} (hok : SlotsOk s.port) (hq : q ∈ s.port.accepted)
    (hposting : isPostingSlot q = true) (hflight : inFlight s q = true) : q ∈ (settle s).port.accepted :=
  foldl_settleOne_keeps hposting _ s (fun _ hx he => hok.place_inj hx hq he) hq hflight

/-- After a settling no eligible read is still to be served (R86). -/
theorem SettledBy.noReadWaits {s t : State} {rest : List Answered} (h : SettledBy s t rest) : NoReadWaits t := by
  obtain ⟨-, -, hwaits⟩ := (settledBy_iff _ _ _).1 h
  unfold NoReadWaits oldestRead
  split
  · rw [List.find?_eq_none]
    intro q hq hboth
    obtain ⟨hread, heligible⟩ := Bool.and_eq_true_iff.1 hboth
    rw [(hwaits q hq heligible).1] at hread
    cases hread
  · rfl

/-! The entry to PARKED -/

/-- The slots the entry to PARKED answers: those of the Posting class that are not in flight (R93). -/
def parkedSlots (s : State) (l : List Slot) : List Slot := l.filter (fun q => isPostingSlot q && !inFlight s q)

/-- What the entry to PARKED answers them (R93). -/
def parkedAnswers (l : List Slot) : List Answered := l.map (fun q => { slot := q, answer := refuseSlot q .parked })

theorem parkedAnswers_places (l : List Slot) : (parkedAnswers l).map (fun b => b.slot.place) = l.map Slot.place := by
  simp [parkedAnswers]

theorem foldl_parkOne_follows (l : List Slot) (s : State) :
    Follows s (l.foldl parkOne s) (parkedAnswers (parkedSlots s l)) := by
  induction l generalizing s with
  | nil => exact .refl s
  | cons q l ih =>
    cases hpark : isPostingSlot q && !inFlight s q with
    | true =>
      have hone : parkOne s q = answerSlot s q (refuseSlot q .parked) := if_pos hpark
      have hslots : parkedSlots s (q :: l) = q :: parkedSlots s l := List.filter_cons_of_pos hpark
      rw [List.foldl_cons, hone, hslots]
      exact (answerSlot_follows s q _).trans (ih (answerSlot s q (refuseSlot q .parked)))
    | false =>
      have hone : parkOne s q = s := if_neg (by rw [hpark]; exact Bool.false_ne_true)
      have hslots : parkedSlots s (q :: l) = parkedSlots s l :=
        List.filter_cons_of_neg (by rw [hpark]; exact Bool.false_ne_true)
      rw [List.foldl_cons, hone, hslots]
      exact ih s

theorem foldl_parkOne_quiet (l : List Slot) (s : State) : Quiet s (l.foldl parkOne s) := by
  induction l generalizing s with
  | nil => exact .refl s
  | cons q l ih =>
    have hone : Quiet s (parkOne s q) := by
      unfold parkOne
      split
      · exact ⟨rfl, rfl, rfl⟩
      · exact .refl s
    exact hone.trans (ih (parkOne s q))

/-- What the entry to PARKED answers: the Posting class first, and behind it only reads (R93; entry 10). -/
structure AnsweredParked (s t : State) (rest : List Answered) : Prop where
  follows : Follows s t (parkedAnswers (parkedSlots s s.port.accepted) ++ rest)
  settledBy : SettledBy s t rest
  reads : ∀ b ∈ rest, isReadSlot b.slot = true
  left : ∀ q ∈ t.port.accepted, isPostingSlot q = true → inFlight s q = true
  quiet : (∀ q ∈ s.port.accepted, isReadSlot q = false) → rest = [] ∧ Quiet s t

theorem answerParked_answers {s : State} (hok : SlotsOk s.port) : ∃ rest, AnsweredParked s (answerParked s) rest := by
  have hparked := foldl_parkOne_follows s.port.accepted s
  have hquiet := foldl_parkOne_quiet s.port.accepted s
  have hokParked : SlotsOk (s.port.accepted.foldl parkOne s).port :=
    SlotsOk.foldl _ (fun _ _ => SlotsOk.parkOne) parkOne_accepted _ _ hok.accepted_nodup (fun _ => id) hok
  unfold answerParked
  generalize s.port.accepted.foldl parkOne s = u at hparked hquiet hokParked
  obtain ⟨rest, hrest⟩ := settle_follows u
  have hsettled := hrest.settledBy hokParked
  obtain ⟨hsub, hans, -⟩ := (settledBy_iff _ _ _).1 hsettled
  have hleft : ∀ q ∈ u.port.accepted, isPostingSlot q = true → inFlight s q = true := by
    intro q hq hposting
    rw [hparked.answered.2, List.mem_filter, parkedAnswers_places, decide_eq_true_eq] at hq
    obtain ⟨hmem, hnot⟩ := hq
    by_contra hflight
    exact hnot (List.mem_map_of_mem (List.mem_filter.2 ⟨hmem, by simp [hposting, hflight]⟩))
  have hreads : ∀ b ∈ rest, isReadSlot b.slot = true := by
    intro b hb
    rcases hans b hb with ⟨i, v, v', hi, hserve, -⟩ | ⟨hposting, -⟩
    · exact isReadSlot_of_served hi hserve
    · have hmem : b.slot ∈ u.port.accepted := hsub.subset (List.mem_map_of_mem hb)
      have hflight : inFlight u b.slot = true := (hparked.settled.inFlight _).trans (hleft _ hmem hposting)
      have hkept := settle_keeps hokParked hmem hposting hflight
      rw [hrest.answered.2, List.mem_filter, decide_eq_true_eq] at hkept
      exact absurd (List.mem_map_of_mem (f := fun b => b.slot.place) hb) hkept.2
  refine ⟨rest, hparked.trans hrest, hsettled.before hparked.settled.accepted hparked.settled.unset, hreads,
    fun q hq => hleft q (hrest.settled.accepted.subset hq), fun hnone => ⟨?_, ?_⟩⟩
  · refine List.eq_nil_iff_forall_not_mem.2 (fun b hb => ?_)
    have hmem := hparked.settled.accepted.subset (hsub.subset (List.mem_map_of_mem hb))
    exact absurd (hreads b hb) (by rw [hnone _ hmem]; exact Bool.false_ne_true)
  · exact hquiet.trans (settle_quiet (fun q hq => hnone q (hparked.settled.accepted.subset hq)))

/-- The device as it enters PARKED, before it answers (R174). -/
def parking (s : State) : State := (evalSupplyLow { s with supply := some .parked, guard := none } true).raise .parkChanged

theorem exec_guardTimerRunsOut {s : State} (hwaits : NoReadWaits s) (r : SupplyReading) :
    exec (.guardTimerRunsOut r) s = .next (guardRunsOut (measure s r)) :=
  congrArg (fun t => Host.Outcome.next (guardRunsOut (measure t r))) (readsServed_none hwaits)

theorem guardRunsOut_parks {s : State} {g : Guard} (hrun : running s = true) (hlow : s.supply = some .low)
    (hguard : s.guard = some g) (htime : g.startedAt + g.span ≤ s.reading.ms) :
    guardRunsOut s = answerParked (parking s) := by
  unfold guardRunsOut
  rw [if_pos (by simp [hrun, hlow, guardOut, hguard, htime])]
  rfl

theorem guardRunsOut_runs {s : State} {g : Guard} (hguard : s.guard = some g)
    (htime : s.reading.ms < g.startedAt + g.span) : guardRunsOut s = s := by
  unfold guardRunsOut
  rw [if_neg (by simp [guardOut, hguard, Nat.not_le_of_lt htime])]

/-- A class that is latched does not latch again (R155). -/
theorem parking_events {s : State} (h : s.supplyLow.latched = true) : (parking s).events = s.events ||| 0x01#8 := by
  have hbit : latchBit s.supplyLow true = 0#8 := by simp [latchBit, newlyLatched, h]
  have hevents : (parking s).events = s.events ||| latchBit s.supplyLow true ||| 0x01#8 := rfl
  rw [hevents, hbit, BitVec.or_zero]

/-- Settles O12: the guard timer's end is the entry to PARKED, and what it answers. -/
theorem guardTimerParks : Obligations.GuardTimerParks := by
  unfold Obligations.GuardTimerParks
  intro s r g hinv hrun hwaits hlow hguard
  rw [exec_guardTimerRunsOut hwaits r]
  refine ⟨fun htime => ?_, fun htime => congrArg Host.Outcome.next (guardRunsOut_runs hguard htime)⟩
  intro parked
  have hok : SlotsOk (parking (measure s r)).port := ((portInv_iff s).1 hinv).1
  obtain ⟨rest, h⟩ := answerParked_answers hok
  obtain ⟨hdelivery, haccepted⟩ := h.follows.answered
  have hsettled := h.follows.settled
  refine ⟨answerParked (parking (measure s r)), rest, ?row, hsettled.supply, hsettled.guard, hsettled.records,
    hsettled.isSome_posting, ?delivery, ?accepted, h.settledBy, h.reads, h.left, fun hnone hlatched => ?quiet⟩
  case row => rw [guardRunsOut_parks (s := measure s r) hrun hlow hguard htime]
  case delivery => rw [hdelivery, ← List.append_assoc]; rfl
  case accepted =>
    rw [haccepted]
    refine List.filter_congr (fun x _ => decide_eq_decide.2 ?_)
    rw [List.map_append, parkedAnswers_places, List.mem_append, not_or]
    rfl
  case quiet =>
    obtain ⟨hrest, hquiet⟩ := h.quiet hnone
    exact ⟨hrest, hquiet.events.trans (parking_events (s := measure s r) hlatched)⟩

/-! The serving of a read -/

/-- The row of the oldest eligible read serves it, answers its slot, and settles what its answer lets go on (R86). -/
theorem exec_served {i : Instr} {s s1 : State} {q : Slot} {a : Answer} (hserved : Served s i q)
    (hserve : serve i s = some (s1, a)) : exec i s = .next (settle (answerSlot s1 q a)) := by
  obtain ⟨f, hf, hrow⟩ := exec_read hserve
  rw [hrow, serveRow_served hserved, hf]

/-- That is what any other row serves before its own step (R86; entry 25). -/
theorem readsServed_served {i : Instr} {s s1 : State} {q : Slot} {a : Answer} (hserved : Served s i q)
    (hserve : serve i s = some (s1, a)) : readsServed s = settle (answerSlot s1 q a) := by
  obtain ⟨holdest, hrequest⟩ := hserved
  simp only [readsServed, holdest, hrequest, Option.bind_some, hserve]

theorem SlotsOk.served {i : Instr} {s s1 : State} {q : Slot} {a : Answer} (hok : SlotsOk s.port) (hserved : Served s i q)
    (hserve : serve i s = some (s1, a)) : SlotsOk (answerSlot s1 q a).port := by
  obtain ⟨-, hport⟩ := serve_settled hserve
  exact SlotsOk.answer a (hport ▸ hok) (hport ▸ hserved.slot.1)

/-- A row that is no read's reads nothing of a state but what the serving of the waiting read leaves (R86; entry 25). -/
theorem exec_of_readsServed_eq {j : Instr} {s t : State} (hread : isRead j = false) (h : readsServed s = readsServed t) :
    exec j s = exec j t := by
  by_cases hreq : isRequest j = true
  · obtain ⟨body, hrow⟩ := exec_posting hreq hread
    rw [hrow, hrow, h]
  · cases j <;> first
      | exact absurd rfl hreq
      | simp only [exec, execNselFall, execNselRise, execTick, execExpiryPosting, execAlarmCutover, execStatementStep,
          execLatchPosting, execNresetFall, execNresetRelease, execPowerUp, execSupplyStop, execSupplyBelowWarning,
          execSupplyAboveRecovery, execGuardTimerRunsOut, execPostingEnd, h]

/-- The row of a read that is not the oldest eligible one serves that one (R86; entry 25). -/
theorem exec_other_read {i j : Instr} {s : State} {q : Slot} (hread : isRead j = true) (hserved : Served s i q)
    (hne : j ≠ i) : exec j s = .next (readsServed s) := by
  obtain ⟨⟨s1, a⟩, hserve⟩ := Option.isSome_iff_exists.1 (isRead_iff_serve j s ▸ hread)
  obtain ⟨f, -, hrow⟩ := exec_read hserve
  have hother : requestOf q ≠ some j := fun h => hne (Option.some.inj (h.symm.trans hserved.2))
  rw [hrow, serveRow, hserved.1]
  exact congrArg Host.Outcome.next (if_neg hother)

theorem exec_read_idle {j : Instr} {s : State} (hread : isRead j = true) (hwaits : NoReadWaits s) :
    exec j s = .next s := by
  obtain ⟨⟨s1, a⟩, hserve⟩ := Option.isSome_iff_exists.1 (isRead_iff_serve j s ▸ hread)
  obtain ⟨f, -, hrow⟩ := exec_read hserve
  rw [hrow, serveRow, hwaits]

/-- All but CLOCK_SET and EVENTS_CLEAR change nothing when served (R83). -/
theorem serve_changes_nothing {i : Instr} {s s1 : State} {a : Answer} (h : serve i s = some (s1, a))
    (hset : ∀ v, i ≠ .clockSet v) (hclear : ∀ f, i ≠ .eventsClear f) : s1 = s := by
  cases i <;> simp only [serve, Option.some.injEq, Prod.mk.injEq, reduceCtorEq] at h
  case clockSet v => exact absurd rfl (hset v)
  case eventsClear f => exact absurd rfl (hclear f)
  all_goals exact h.1.symm

/-- Settles O50: the row of the read and the start of any other row are one serving, after which no read waits. -/
theorem readsAreServed : Obligations.ReadsAreServed := by
  unfold Obligations.ReadsAreServed
  refine ⟨fun i s q hread hserved => ?_, fun i j s t q hinv hserved hrow hne => ?_⟩
  · obtain ⟨⟨s1, a⟩, hserve⟩ := Option.isSome_iff_exists.1 (isRead_iff_serve i s ▸ hread)
    obtain ⟨hsettled, hport⟩ := serve_settled hserve
    have hanswered : Follows s (answerSlot s1 q a) [{ slot := q, answer := a }] :=
      (AnsweredAs.follows (.inl ⟨i, hserved.2, hserve⟩)).trans (answerSlot_follows s1 q a)
    obtain ⟨rest, hrest⟩ := settle_follows (answerSlot s1 q a)
    have hall := hanswered.trans hrest
    refine ⟨settle (answerSlot s1 q a), s1, a, rest, exec_served hserved hserve, hserve, hall.answered.1, ?gone,
      hall.settled.records, hall.settled.supply, hall.settled.isSome_posting, fun hinv => ?settled,
      fun hinv hwait => ?alone, serve_changes_nothing hserve⟩
    case gone =>
      intro x hx
      rw [hall.answered.2, List.mem_filter, decide_eq_true_eq] at hx
      exact fun he => hx.2 (by simp [he])
    case settled =>
      have hok := ((portInv_iff s).1 hinv).1.served hserved hserve
      exact (hrest.settledBy hok).before hanswered.settled.accepted hanswered.settled.unset
    case alone =>
      rw [settle_answered a ((portInv_iff s).1 hinv).1 hserved.slot.1 hwait hsettled hport, answerSlot, hport]
  · have hread : isRead i = true := by
      have hslot := List.find?_some (by simpa [oldestRead, hserved.slot.2] using hserved.1)
      simp only [isReadSlot, hserved.2, Bool.and_eq_true] at hslot
      exact hslot.1
    obtain ⟨⟨s1, a⟩, hserve⟩ := Option.isSome_iff_exists.1 (isRead_iff_serve i s ▸ hread)
    have ht : t = settle (answerSlot s1 q a) := Host.Outcome.next.inj (hrow.symm.trans (exec_served hserved hserve))
    have hserves : readsServed s = t := (readsServed_served hserved hserve).trans ht.symm
    have hwaits : NoReadWaits t := by
      obtain ⟨rest, -, hsettled⟩ := settle_settledBy (((portInv_iff s).1 hinv).1.served hserved hserve)
      exact ht ▸ hsettled.noReadWaits
    refine ⟨?_, hwaits⟩
    cases hreadj : isRead j with
    | true => rw [exec_other_read hreadj hserved hne, exec_read_idle hreadj hwaits, hserves]
    | false => exact exec_of_readsServed_eq hreadj (hserves.trans (readsServed_none hwaits).symm)

end Sys2Proof.Machine
end

section
/-! PROOFS. Requests that wait at acceptance, and the serials they name (R84 to R86, R92, R93, R185, R186). -/

namespace Sys2Proof.Machine

/-! A new slot -/

/-- A walk from the front that ends within a list ends there whatever is put behind the list. -/
theorem takeWhile_append_of_mem {α : Type} {go : α → Bool} {x : α} {l : List α} (hx : x ∈ l) (hgo : go x = false)
    (more : List α) : (l ++ more).takeWhile go = l.takeWhile go := by
  induction l with
  | nil => cases hx
  | cons y rest ih =>
    cases hy : go y with
    | false => simp [hy]
    | true =>
      have hrest : x ∈ rest := (List.mem_cons.1 hx).resolve_left (fun he => by rw [he, hy] at hgo; cases hgo)
      simp [hy, ih hrest]

/-- A new slot leaves the slots accepted before it as eligible as they were (R85). -/
theorem eligible_addSlot_old {s : State} {p : Slot} (hp : p ∈ s.port.accepted) (q : Slot) :
    eligible (addSlot s q) p = eligible s p := by
  have hearlier : earlier (addSlot s q) p = earlier s p := takeWhile_append_of_mem hp (by simp) [q]
  rw [eligible, hearlier, eligible]

/-- Every slot before a new slot was accepted before it. -/
theorem mem_earlier_addSlot {s : State} {p q : Slot} (h : p ∈ earlier (addSlot s q) q) : p ∈ s.port.accepted := by
  have hbefore : p.place ≠ q.place := by simpa using List.mem_takeWhile_imp h
  rcases List.mem_append.1 ((List.takeWhile_sublist _).subset h) with hp | hp
  · exact hp
  · exact absurd (congrArg Slot.place (List.mem_singleton.1 hp)) hbefore

theorem shareSerial_iff (p q : Slot) : shareSerial p q = true ↔ ∃ x ∈ q.serials, x ∈ p.serials := by
  simp only [shareSerial, List.any_eq_true, List.contains_iff_mem]
  exact ⟨fun ⟨x, hp, hq⟩ => ⟨x, hq, hp⟩, fun ⟨x, hq, hp⟩ => ⟨x, hp, hq⟩⟩

/-- A new slot that names no serial an unanswered slot names is eligible (R85). -/
theorem eligible_addSlot_apart {s : State} {q : Slot}
    (h : ∀ p ∈ s.port.accepted, ∀ x ∈ q.serials, x ∉ p.serials) : eligible (addSlot s q) q = true := by
  rw [eligible, List.all_eq_true]
  intro p hp
  rw [Bool.not_eq_true', Bool.eq_false_iff, ne_eq, shareSerial_iff]
  rintro ⟨x, hq, hx⟩
  exact h p (mem_earlier_addSlot hp) x hq hx

/-- A new slot that names a serial an unanswered slot names is not eligible (R85). -/
theorem eligible_addSlot_behind {s : State} {p q : Slot} {x : Nat} (hfresh : ∀ p ∈ s.port.accepted, p.place ≠ q.place)
    (hp : p ∈ s.port.accepted) (hq : x ∈ q.serials) (hx : x ∈ p.serials) : eligible (addSlot s q) q = false := by
  have hearlier : p ∈ earlier (addSlot s q) q := by
    rw [earlier, addSlot_port, List.takeWhile_append_of_pos (fun y hy => decide_eq_true (hfresh y hy))]
    exact List.mem_append_left _ hp
  rw [eligible, List.all_eq_false]
  exact ⟨p, hearlier, by simp [(shareSerial_iff p q).2 ⟨x, hq, hx⟩]⟩

/-! Acceptance -/

/-- A request that is not answered as it is accepted waits in its slot (R86, R92, R93). -/
theorem goOn_waits {s : State} {i : Instr} {code tag : Byte} {ps : List Byte}
    (h : let q := newSlot s code tag ps (namedSerials s.records i)
      isRead i = true ∨ blockedAnswer s = none ∨ eligible (addSlot s q) q = false) :
    goOn s code tag ps i = addSlot s (newSlot s code tag ps (namedSerials s.records i)) := by
  unfold goOn
  simp only
  split
  · rfl
  · next hread =>
    unfold answerBlocked
    rcases h with h | h | h
    · exact absurd h hread
    · have hnone : blockedAnswer (addSlot s (newSlot s code tag ps (namedSerials s.records i))) = none := h
      rw [hnone]
    · simp only [h, Bool.false_eq_true, if_false]
      split
      · rfl
      · rfl

/-- The frame of a request, with a slot FREE, lets its request go on (R83, R185, R186). -/
theorem exec_nselRise_request {s : State} {i : Instr} {code : Nat} {ps : List Byte} (hwell : WellFormed i = true)
    (hencode : encodeRequest i = some (code, ps)) (hwaits : NoReadWaits s) (hrun : running s = true)
    (hsel : s.nSelLow = true) (hframe : s.port.frame.isSome = true)
    (hfree : s.port.accepted.length + (leftDelivery s).length < 16) (tag : Byte) :
    exec (.nselRise (requestFrame tag i)) s =
      .next (closeFrame (goOn (received s) (BitVec.ofNat 8 code) tag (padParams ps) i)) ∧
    decodeRequest (BitVec.ofNat 8 code).toNat (padParams ps) = .ok i := by
  obtain ⟨hsome, hfit⟩ := encodes i
  obtain ⟨hpos, hbyte, -⟩ := hfit code ps hencode
  rw [hencode] at hsome
  obtain ⟨hlength, hcrc, -⟩ := requestFrame_spelled hwell hsome.symm tag
  obtain ⟨crc, hbytes, hparams⟩ := toBytes_requestFrame hencode tag
  have hvalue : (BitVec.ofNat 8 code).toNat = code := by rw [BitVec.toNat_ofNat, Nat.mod_eq_of_lt hbyte]
  have hcode : BitVec.ofNat 8 code ≠ 0x00#8 := fun h0 => by
    rw [h0] at hvalue
    exact hpos.ne hvalue
  have hdecode : decodeRequest (BitVec.ofNat 8 code).toNat (padParams ps) = .ok i := by
    rw [hvalue]
    exact decode_encode hwell hencode _
  refine ⟨?_, hdecode⟩
  rw [exec_nselRise_accepts hwaits hrun hsel hframe hlength hcrc hbytes hcode hfree, hparams, accept, hdecode]

theorem requestOf_decoded {q : Slot} {i : Instr} (h : decodeRequest q.code.toNat q.params = .ok i) :
    requestOf q = some i := by
  simp only [requestOf, h]

/-- Where no read waits, a read that is eligible as it is accepted is the one to be served (R86). -/
theorem oldestRead_addSlot {s : State} {q : Slot} (hwaits : NoReadWaits s) (hrun : running s = true)
    (hread : isReadSlot q = true) (heligible : eligible (addSlot s q) q = true) :
    oldestRead (addSlot s q) = some q := by
  have hnone : s.port.accepted.find? (fun p => isReadSlot p && eligible s p) = none := by
    simpa [NoReadWaits, oldestRead, hrun] using hwaits
  have hold : s.port.accepted.find? (fun p => isReadSlot p && eligible (addSlot s q) p) = none := by
    rw [List.find?_eq_none] at hnone ⊢
    intro p hp
    rw [eligible_addSlot_old hp]
    exact hnone p hp
  have hrun' : running (addSlot s q) = true := hrun
  rw [oldestRead, if_pos hrun', addSlot_port, List.find?_append, hold]
  simp [hread, heligible]

/-! The serials a request names -/

theorem holdSerials_none {r : Records} {id : Nat} (h : findHold r.holds id = none) : holdSerials r id = [] := by
  simp only [holdSerials, h]

theorem holdSerials_some {r : Records} {id : Nat} {h : Hold} {c : Card} (hh : findHold r.holds id = some h)
    (hc : tableFind r.cards h.slot = some c) : holdSerials r id = [c.serial] := by
  simp only [holdSerials, hh, hc]

/-- Only the requests of cards and of holds name serials (R84, R190). -/
theorem namedSerials_others {i : Instr} {code : Nat} {ps : List Byte} (h : encodeRequest i = some (code, ps))
    (hcode : 0x30 ≤ code) (r : Records) : namedSerials r i = [] := by
  cases i
  case cardIssue | cardReload | cardInquire | cardLock | cardUnlock | cardRetire | cardTransfer | cardPurge | redeem |
      holdPlace | holdComplete | holdVoid | holdInquire | refund =>
    simp only [encodeRequest, Option.some.injEq, Prod.mk.injEq] at h
    omega
  all_goals rfl

/-- Settles O4: the frame lets its request go on, which leaves it in its slot in each of the three cases; a read that nothing
holds back is then the oldest eligible one. -/
theorem acceptanceOfARequest : Obligations.AcceptanceOfARequest := by
  unfold Obligations.AcceptanceOfARequest
  refine ⟨fun s i tag code ps hwell hencode hwaits hrun hsel hframe hcase => ?_, fun r => ⟨?own, ?holds, ?others⟩⟩
  · intro left hfree q t
    obtain ⟨hrow, hdecode⟩ := exec_nselRise_request hwell hencode hwaits hrun hsel hframe hfree tag
    have hrequest : requestOf q = some i := requestOf_decoded hdecode
    have hgoes : goOn (received s) (BitVec.ofNat 8 code) tag (padParams ps) i = addSlot (received s) q := by
      refine goOn_waits ?_
      rcases hcase with hread | ⟨hset, hlive⟩ | ⟨hinv, p, hp, x, hx, hpx⟩
      · exact .inl hread
      · exact .inr (.inl ((blockedAnswer_none_iff (received s)).2 ⟨hlive, hset⟩))
      · exact .inr (.inr (eligible_addSlot_behind (s := received s) (portInv_fresh (s := s) hinv) hp hx hpx))
    refine ⟨by rw [hrow, hgoes]; rfl, hrequest, fun hread hapart => ⟨?_, hrequest⟩⟩
    have hreadSlot : isReadSlot q = true := by simp only [isReadSlot, hrequest, hread]
    exact oldestRead_addSlot (s := s) hwaits hrun hreadSlot (eligible_addSlot_apart hapart)
  case own =>
    intro x y m a v p reason
    exact ⟨by simp [namedSerials], if_pos rfl, fun hne => if_neg hne⟩
  case holds =>
    intro id m a p three
    refine ⟨fun hnone => ?_, fun h c hh hc => ?_⟩
    · simp [three, namedSerials, holdSerials_none hnone]
    · simp [three, namedSerials, holdSerials_some hh hc]
  case others => exact fun i code ps h hcode => namedSerials_others h hcode r

end Sys2Proof.Machine
end

section
/-! PROOFS. The merchant requests in every state of the merchant (R104 to R110, R115). -/

namespace Sys2Proof.Machine

/-! What each request judges -/

section Judgements

variable {d : Draft} {m : Nat}

/-- A merchant that most requests refuse NOT_ENROLLED: UNENROLLED or WITHDRAWN (R106 to R109). -/
abbrev NotEnrolled (x : Merchant) : Prop := x.state = .unenrolled ∨ x.state = .withdrawn

/-- A merchant that is ENROLLED or SUSPENDED (R100). -/
abbrev EnrolledOrSuspended (x : Merchant) : Prop := x.state = .enrolled ∨ x.state = .suspended

theorem postMerchantEnrol_unenrolled (st : Settings) (h : (merchantOf d.records m).state = .unenrolled) :
    postMerchantEnrol m st d =
      let d' := (d.putMerchant m { merchantOf d.records m with state := .enrolled, settings := st }).commit
      (d', answer .ok (merchantPage0 d'.records m)) := by
  simp only [postMerchantEnrol, h]

theorem postMerchantEnrol_refused (st : Settings) (h : (merchantOf d.records m).state ≠ .unenrolled) :
    postMerchantEnrol m st d = (d, answer .alreadyEnrolled (field 2 m)) := by
  unfold postMerchantEnrol
  simp only
  split
  · next hs => exact absurd hs h
  · rfl
  · rfl
  · rfl

theorem postMerchantUpdate_approved (st : Settings) (h : EnrolledOrSuspended (merchantOf d.records m)) :
    postMerchantUpdate m st d = (updateChanges d m st, answer .ok (merchantPage0 (updateChanges d m st).records m)) := by
  rcases h with h | h <;> simp only [postMerchantUpdate, h]

theorem postMerchantUpdate_refused (st : Settings) (h : NotEnrolled (merchantOf d.records m)) :
    postMerchantUpdate m st d = (d, answer .notEnrolled (field 2 m)) := by
  rcases h with h | h <;> simp only [postMerchantUpdate, h, refuseMerchant]

theorem postMerchantSuspend_enrolled (h : (merchantOf d.records m).state = .enrolled) :
    postMerchantSuspend m d = (moveMerchant d m .suspended, answer .ok (field 2 m ++ field 1 2)) := by
  simp only [postMerchantSuspend, h]
  rfl

theorem postMerchantSuspend_suspended (h : (merchantOf d.records m).state = .suspended) :
    postMerchantSuspend m d = (d, answer .ok (field 2 m ++ field 1 2)) := by
  simp only [postMerchantSuspend, h]
  rfl

theorem postMerchantSuspend_refused (h : NotEnrolled (merchantOf d.records m)) :
    postMerchantSuspend m d = (d, answer .notEnrolled (field 2 m)) := by
  rcases h with h | h <;> simp only [postMerchantSuspend, h, refuseMerchant]

theorem postMerchantResume_suspended (h : (merchantOf d.records m).state = .suspended) :
    postMerchantResume m d = (moveMerchant d m .enrolled, answer .ok (field 2 m ++ field 1 1)) := by
  simp only [postMerchantResume, h]
  rfl

theorem postMerchantResume_enrolled (h : (merchantOf d.records m).state = .enrolled) :
    postMerchantResume m d = (d, answer .ok (field 2 m ++ field 1 1)) := by
  simp only [postMerchantResume, h]
  rfl

theorem postMerchantResume_refused (h : NotEnrolled (merchantOf d.records m)) :
    postMerchantResume m d = (d, answer .notEnrolled (field 2 m)) := by
  rcases h with h | h <;> simp only [postMerchantResume, h, refuseMerchant]

theorem postMerchantWithdraw_trading (h : EnrolledOrSuspended (merchantOf d.records m)) :
    postMerchantWithdraw m d = withdrawTrading m d := by
  rcases h with h | h <;> simp only [postMerchantWithdraw, h]

theorem postMerchantWithdraw_refused (h : NotEnrolled (merchantOf d.records m)) :
    postMerchantWithdraw m d = (d, answer .notEnrolled (field 2 m)) := by
  rcases h with h | h <;> simp only [postMerchantWithdraw, h, refuseMerchant]

theorem withdrawTrading_quiet (h : (merchantOf d.records m).openHolds = 0) :
    withdrawTrading m d = (withdrawChanges d m,
      answer .ok (field 2 m ++ field 1 d.records.totals.openPeriod ++ field 2 0)) :=
  if_neg (not_not.2 h)

theorem withdrawTrading_held (h : 0 < (merchantOf d.records m).openHolds) :
    withdrawTrading m d =
      (d, answer .holdsOpen (field 2 m ++ field 1 0 ++ field 2 (merchantOf d.records m).openHolds)) :=
  if_pos (Nat.ne_of_gt h)

end Judgements

/-! The requests -/

/-- Settles O41: each request judges by the state of the merchant, and its one write is of the merchant's record. -/
theorem merchantRequestsByState : Obligations.MerchantRequestsByState := by
  unfold Obligations.MerchantRequestsByState
  intro s m q
  exact
    ⟨fun st hg =>
      ⟨fun h => exec_judged hg rfl (postMerchantEnrol_unenrolled (d := startDraft s) st h),
        fun h => exec_judged hg rfl (postMerchantEnrol_refused (d := startDraft s) st h)⟩,
    fun st hg =>
      ⟨fun h => exec_judged hg rfl (postMerchantUpdate_approved (d := startDraft s) st h),
        fun h => exec_judged hg rfl (postMerchantUpdate_refused (d := startDraft s) st h)⟩,
    fun hg =>
      ⟨fun h => exec_judged hg rfl (postMerchantSuspend_enrolled (d := startDraft s) h),
        fun h => exec_judged hg rfl (postMerchantSuspend_suspended (d := startDraft s) h),
        fun h => exec_judged hg rfl (postMerchantSuspend_refused (d := startDraft s) h)⟩,
    fun hg =>
      ⟨fun h => exec_judged hg rfl (postMerchantResume_suspended (d := startDraft s) h),
        fun h => exec_judged hg rfl (postMerchantResume_enrolled (d := startDraft s) h),
        fun h => exec_judged hg rfl (postMerchantResume_refused (d := startDraft s) h)⟩,
    fun hg =>
      ⟨fun h hquiet => exec_judged hg rfl
          ((postMerchantWithdraw_trading (d := startDraft s) h).trans (withdrawTrading_quiet hquiet)),
        fun h hheld => exec_judged hg rfl
          ((postMerchantWithdraw_trading (d := startDraft s) h).trans (withdrawTrading_held hheld)),
        fun h => exec_judged hg rfl (postMerchantWithdraw_refused (d := startDraft s) h)⟩,
    fun y k => merchantOf_put s.records m y k⟩

end Sys2Proof.Machine
end

section
/-! PROOFS. STATEMENTS_RELEASE in full (R112, R124, R125, R135, R136). -/

namespace Sys2Proof.Machine

/-! Merchants returned (R112) -/

/-- The merchants a release returns are those whose record is WITHDRAWN in its period. -/
theorem mem_returnedMerchants {r : Records} (h : rising r.merchants = true) (q m : Nat) :
    m ∈ returnedMerchants r q ↔ (merchantOf r m).state = .withdrawn ∧ (merchantOf r m).withdrawnIn = some q := by
  simp only [returnedMerchants, isReturned, List.mem_map, List.mem_filter, Bool.and_eq_true, decide_eq_true_eq]
  constructor
  · rintro ⟨e, ⟨he, hstate, hin⟩, rfl⟩
    rw [merchantOf_listed h he]
    exact ⟨hstate, hin⟩
  · rintro ⟨hstate, hin⟩
    cases hf : tableFind r.merchants m with
    | some x =>
      have hmem := mem_of_tableFind hf
      rw [merchantOf_listed h hmem] at hstate hin
      exact ⟨(m, x), ⟨hmem, hstate, hin⟩, rfl⟩
    | none =>
      rw [merchantOf, tableGet, hf] at hstate
      cases hstate

section Returned

variable (l : List Nat) (d : Draft)

/-- Returning merchants moves their records, their open entries and the Qualification List, and nothing else. -/
theorem foldl_returnMerchant_eq :
    let d' := l.foldl Draft.returnMerchant d
    d' = { d with
      records := { d.records with
        merchants := d'.records.merchants
        openBank := { d.records.openBank with entries := d'.records.openBank.entries } }
      qual := d.qual.filter (fun k => decide (k.merchant ∉ l)) } := by
  induction l generalizing d with
  | nil => simp
  | cons m rest ih =>
    simp only [List.foldl_cons]
    refine (ih _).trans ?_
    have hqual : ((d.returnMerchant m).qual.filter (fun k => decide (k.merchant ∉ rest))) =
        d.qual.filter (fun k => decide (k.merchant ∉ m :: rest)) := by
      simp only [Draft.returnMerchant, Draft.putEntry_qual, Draft.putMerchant_qual, eraseQual, List.filter_filter]
      exact List.filter_congr (fun k _ => by simp [Bool.and_comm])
    rw [hqual]
    rfl

theorem merchantOf_foldl_returnMerchant (m : Nat) :
    merchantOf (l.foldl Draft.returnMerchant d).records m =
      if m ∈ l then { unenrolledMerchant with openHolds := (merchantOf d.records m).openHolds }
      else merchantOf d.records m := by
  induction l generalizing d with
  | nil => simp
  | cons k rest ih =>
    have hone : merchantOf (d.returnMerchant k).records m =
        if m = k then { unenrolledMerchant with openHolds := (merchantOf d.records k).openHolds }
        else merchantOf d.records m := merchantOf_put d.records k _ m
    rw [List.foldl_cons, ih, hone]
    by_cases hk : m = k
    · subst hk; simp
    · simp [hk]

theorem openEntry_foldl_returnMerchant (m : Nat) :
    openEntry (l.foldl Draft.returnMerchant d).records m = if m ∈ l then zeroEntry else openEntry d.records m := by
  induction l generalizing d with
  | nil => simp
  | cons k rest ih =>
    have hone : openEntry (d.returnMerchant k).records m = if m = k then zeroEntry else openEntry d.records m :=
      openEntry_put d.records d.records.openBank k zeroEntry m
    rw [List.foldl_cons, ih, hone]
    by_cases hk : m = k
    · subst hk; simp
    · simp [hk]

end Returned

/-! The bank released (R136) -/

/-- The records with close-deferred clear. -/
def undeferred (r : Records) : Records := { r with totals := { r.totals with closeDeferred := false } }

/-- What an approved release of the period `q` does before a deferred cutover: the bank freed, its merchants returned and
close-deferred taken (R136 steps 1 and 2). -/
def Draft.released (d : Draft) (q : Nat) : Draft :=
  ((returnedMerchants d.records q).foldl Draft.returnMerchant (d.mapRecords releaseBank)).mapRecords undeferred

theorem undeferred_eq {r : Records} (h : r.totals.closeDeferred = false) : undeferred r = r := by
  rw [undeferred, ← h]

theorem Draft.mapRecords_eq {d : Draft} {f : Records → Records} (h : f d.records = d.records) : d.mapRecords f = d := by
  rw [Draft.mapRecords, h]

/-- A release is followed by a cutover in the same posting where close-deferred is set (R136 step 3). -/
theorem releasePeriod_eq (d : Draft) (q : Nat) :
    releasePeriod d q =
      if d.records.totals.closeDeferred then (d.released q).cutover.commit else (d.released q).commit := by
  have htotals : ((returnedMerchants d.records q).foldl Draft.returnMerchant (d.mapRecords releaseBank)).records.totals =
      d.records.totals := by rw [foldl_returnMerchant_eq]; rfl
  unfold releasePeriod Draft.deferredCutover Draft.released
  rw [htotals]
  split
  · rfl
  · next h =>
    rw [Draft.mapRecords_eq (undeferred_eq (by rw [htotals]; simpa using h))]

section Released

variable (d : Draft) (q : Nat)

/-- A release frees the closing bank, writes merchants and open entries and takes close-deferred, and moves no other
record. -/
theorem released_records :
    let r := (d.released q).records
    r = { d.records with
      closingBank := absentBank d.records.closingBank.period
      merchants := r.merchants
      openBank := { d.records.openBank with entries := r.openBank.entries }
      totals := { d.records.totals with closeDeferred := false } } := by
  have h := congrArg Draft.records
    (foldl_returnMerchant_eq (returnedMerchants d.records q) (d.mapRecords releaseBank))
  exact congrArg undeferred h

theorem released_eq :
    d.released q = { d with
      records := (d.released q).records
      qual := d.qual.filter (fun k => decide (k.merchant ∉ returnedMerchants d.records q)) } := by
  have h := foldl_returnMerchant_eq (returnedMerchants d.records q) (d.mapRecords releaseBank)
  rw [Draft.released, h]
  rfl

theorem merchantOf_released (m : Nat) :
    merchantOf (d.released q).records m =
      if m ∈ returnedMerchants d.records q then
        { unenrolledMerchant with openHolds := (merchantOf d.records m).openHolds }
      else merchantOf d.records m :=
  merchantOf_foldl_returnMerchant _ (d.mapRecords releaseBank) m

theorem openEntry_released (m : Nat) :
    openEntry (d.released q).records m =
      if m ∈ returnedMerchants d.records q then zeroEntry else openEntry d.records m :=
  openEntry_foldl_returnMerchant _ (d.mapRecords releaseBank) m

theorem released_tables (h : tablesCanonical d.records = true) : tablesCanonical (d.released q).records = true := by
  have hfreed : tablesCanonical (d.mapRecords releaseBank).records = true := by
    obtain ⟨hdir, hcards, hmerchants, hopen, -⟩ := (tablesCanonical_iff _).1 h
    exact (tablesCanonical_iff _).2 ⟨hdir, hcards, hmerchants, hopen, rfl⟩
  exact (kept_foldl Draft.returnMerchant kept_returnMerchant (returnedMerchants d.records q) _).tables hfreed

theorem releasePeriod_alone (h : d.records.totals.closeDeferred = false) :
    releasePeriod d q = { d with
      records := { (d.released q).records with totals := { d.records.totals with floor := d.now } }
      qual := d.qual.filter (fun k => decide (k.merchant ∉ returnedMerchants d.records q)) } := by
  have hfloor : { (d.released q).records.totals with floor := d.now } = { d.records.totals with floor := d.now } := by
    rw [congrArg Records.totals (released_records d q), ← h]
  rw [releasePeriod_eq, if_neg (by simp [h]), released_eq, ← hfloor]
  rfl

theorem releasePeriod_cutsOver (h : d.records.totals.closeDeferred = true) :
    releasePeriod d q = { d with
      records := { cutoverRecords (d.released q).records d.now with totals :=
        { d.records.totals with
          closeDeferred := false, openPeriod := (d.records.totals.openPeriod + 1) % 8, floor := d.now } }
      qual := []
      events := d.events ||| 0x04#8
      clearsAlarm := true } := by
  have htotals : (d.released q).records.totals = { d.records.totals with closeDeferred := false } :=
    congrArg Records.totals (released_records d q)
  rw [releasePeriod_eq, if_pos h, released_eq]
  simp only [Draft.commit, Draft.cutover, Draft.mapRecords, cutoverRecords, htotals]
  rfl

end Released

/-! The request -/

/-- The posting of a release, by the state of the closing bank (R135). -/
theorem postStatementsRelease_absent {d : Draft} (q : Nat) (h : d.records.closingBank.state = .absent) :
    postStatementsRelease q d = (d, refuse .noStatement) := by simp only [postStatementsRelease, h]

theorem postStatementsRelease_computing {d : Draft} (q : Nat) (h : d.records.closingBank.state = .computing) :
    postStatementsRelease q d = (d, refuse .notReady) := by simp only [postStatementsRelease, h]

theorem postStatementsRelease_ready {d : Draft} (q : Nat) (h : d.records.closingBank.state = .ready) :
    postStatementsRelease q d =
      if d.records.closingBank.period ≠ q then (d, answer .wrongPeriod (field 1 d.records.closingBank.period))
      else
        (releasePeriod d q,
          answer .ok (field 1 q ++ field 2 (returnedMerchants d.records q).length ++
            flagField d.records.totals.closeDeferred ++ field 1 (releasePeriod d q).records.totals.openPeriod)) := by
  simp only [postStatementsRelease, h]

/-- The period open after a release: the one open before it, or the next where a deferred cutover followed. -/
theorem releasePeriod_openPeriod (d : Draft) (q : Nat) :
    (releasePeriod d q).records.totals.openPeriod =
      if d.records.totals.closeDeferred then (d.records.totals.openPeriod + 1) % 8 else d.records.totals.openPeriod := by
  cases h : d.records.totals.closeDeferred with
  | false => rw [releasePeriod_alone d q h]; rfl
  | true => rw [releasePeriod_cutsOver d q h]; rfl

/-- Settles O44: the release is what `released` does to the records, then the cutover where it was deferred. -/
theorem releaseFreesTheClosingBank : Obligations.ReleaseFreesTheClosingBank := by
  unfold Obligations.ReleaseFreesTheClosingBank
  intro s p q hg htables b t leaves
  obtain ⟨-, -, hcanonical, -, -⟩ := (tablesCanonical_iff _).1 htables
  have hmem : ∀ m, m ∈ returnedMerchants s.records p ↔ leaves m :=
    mem_returnedMerchants (canonical_rising hcanonical) p
  refine ⟨fun h => ?absent, fun h => ?computing, fun h hp => ?wrong, fun h hp => ?released⟩
  case absent => exact exec_judged hg rfl (postStatementsRelease_absent (d := startDraft s) p h)
  case computing => exact exec_judged hg rfl (postStatementsRelease_computing (d := startDraft s) p h)
  case wrong =>
    exact exec_judged hg rfl ((postStatementsRelease_ready (d := startDraft s) p h).trans (if_pos hp))
  case released =>
    have hjudged := (postStatementsRelease_ready (d := startDraft s) p h).trans (if_neg (not_not.2 hp))
    rw [releasePeriod_openPeriod] at hjudged
    have hrecords := released_records (startDraft s) p
    have hbank : ((startDraft s).released p).records.closingBank = absentBank b.period :=
      congrArg Records.closingBank hrecords
    have hqual : s.qual.filter (fun k => decide (k.merchant ∉ returnedMerchants s.records p)) =
        s.qual.filter (fun k => decide (¬ leaves k.merchant)) :=
      List.filter_congr (fun k _ => decide_eq_decide.2 (not_congr (hmem k.merchant)))
    refine ⟨_, _, exec_judged hg rfl hjudged, List.length_map _, ((startDraft s).released p).records, ?_,
      released_tables _ p htables, congrArg Bank.state hbank,
      (congrArg Bank.period hbank :), congrArg Bank.entries hbank,
      fun m hm => ⟨(merchantOf_released _ p m).trans (if_pos ((hmem m).2 hm)),
        (openEntry_released _ p m).trans (if_pos ((hmem m).2 hm))⟩,
      fun m hm => ⟨(merchantOf_released _ p m).trans (if_neg (mt (hmem m).1 hm)),
        (openEntry_released _ p m).trans (if_neg (mt (hmem m).1 hm))⟩,
      fun hd => ?_, fun hd => ?_⟩
    · rw [hbank]; exact hrecords
    · rw [releasePeriod_alone (startDraft s) p hd, ← hqual]
      rfl
    · rw [releasePeriod_cutsOver (startDraft s) p hd, startDraft_events, BitVec.zero_or]
      rfl

end Sys2Proof.Machine
end

section
/-! PROOFS. The records under the rows that grant no posting: they stand, but that the end of the posting in flight puts its
change-set in their place (R80, R82, R160). -/

namespace Sys2Proof.Machine

/-- The records stand, with those of a posting in flight; or the posting in flight has ended into them. -/
inductive RecordsEnd (s t : State) : Prop
  | kept (h : RecordsKept s t)
  | ended (p : Posting) (hp : s.posting = some p) (hrecords : t.records = endedRecords s p) (hnone : t.posting = none)

/-- A change after it that leaves the records and drops the posting in flight. -/
theorem RecordsEnd.dropped {s t u : State} (h : RecordsEnd s t) (hr : u.records = t.records) (hp : u.posting = none) :
    RecordsEnd s u := by
  cases h with
  | kept h => exact .kept (h.trans (.of_dropped hr hp))
  | ended p hs hrecords hnone => exact .ended p hs (hr.trans hrecords) hp

theorem endPosting_recordsEnd (s : State) : RecordsEnd s (endPosting s) := by
  cases hp : s.posting with
  | none => rw [endPosting_idle hp]; exact .kept (.refl s)
  | some p =>
    have hsettled := endPosting_settled hp
    refine .ended p hp (hsettled.records.trans (by rw [finishState_applyChange])) ?_
    have hnone : (finishState (applyChange s p) p).posting = none := by rw [finishState_applyChange]; rfl
    rcases hsettled.posting with h | h
    · rw [h, hnone]
    · rw [h, hnone]; rfl

theorem resetFall_recordsEnd (s : State) : RecordsEnd s (resetFall s) := by
  unfold resetFall
  split
  · exact .kept (.refl s)
  · split
    · exact (endPosting_recordsEnd s).dropped rfl rfl
    · exact .kept ⟨rfl, fun p hp => ⟨p, hp, rfl⟩⟩

theorem stopDevice_recordsEnd (s : State) : RecordsEnd s (stopDevice s) := by
  unfold stopDevice
  split
  · exact (endPosting_recordsEnd s).dropped rfl rfl
  · exact .kept (.refl s)

/-- A row that grants no posting serves reads and measures the supply, and then leaves the records or ends a posting. -/
theorem exec_recordsEnd {i : Instr} {s t : State} (hi : isGrant i = false) (h : exec i s = .next t) :
    ∃ u, RecordsKept s u ∧ RecordsEnd u t := by
  have served := (readsServed_settled s).recordsKept
  have measured : ∀ r, RecordsKept s (measure (readsServed s) r) := fun r =>
    served.trans (measure_beside _ r).recordsKept
  by_cases hread : isRead i = true
  · exact ⟨t, (exec_read_settled hread h).recordsKept, .kept (.refl t)⟩
  have hgrant : ¬ isGrant i = true := by simp [hi]
  cases i <;> first
    | exact absurd rfl hread
    | exact absurd rfl hgrant
    | obtain rfl := Host.Outcome.next.inj h
  case nselFall => exact ⟨_, served, .kept (selFall_beside _).recordsKept⟩
  case nselRise sdi => exact ⟨_, served, .kept (selRise_beside sdi _).recordsKept⟩
  case tick => exact ⟨_, served, .kept (tickClock_recordsKept _)⟩
  case nresetFall => exact ⟨_, served, resetFall_recordsEnd _⟩
  case nresetRelease r => exact ⟨_, measured r, .kept (resetRelease_recordsKept _)⟩
  case powerUp r charged =>
    have charge : Beside (measure (readsServed s) r) { measure (readsServed s) r with vhold := charged } :=
      ⟨rfl, rfl, .inl rfl⟩
    exact ⟨_, measured r, .kept (charge.recordsKept.trans (powerOn_recordsKept _))⟩
  case supplyStop r => exact ⟨_, measured r, stopDevice_recordsEnd _⟩
  case supplyBelowWarning r => exact ⟨_, measured r, .kept (supplyFall_beside _).recordsKept⟩
  case supplyAboveRecovery r => exact ⟨_, measured r, .kept (supplyRise_beside _).recordsKept⟩
  case guardTimerRunsOut r => exact ⟨_, measured r, .kept (guardRunsOut_recordsKept _)⟩
  case postingEnd r => exact ⟨_, measured r, endPosting_recordsEnd _⟩

/-- A property that stands of the records and of the change-set in flight, and bears a write of the floor, stands after a row
that grants no posting. -/
theorem RecordsEnd.stands {P : Records → Prop} {s t : State} (h : RecordsEnd s t)
    (hfloor : ∀ (r : Records) n, P r → P { r with totals := { r.totals with floor := n } }) (hs : Stands P s) :
    Stands P t := by
  cases h with
  | kept h => exact h.stands hs
  | ended p hp hrecords hnone =>
    refine ⟨hrecords ▸ ?_, fun p' hp' => by rw [hnone] at hp'; cases hp'⟩
    have hchange := hs.change p hp
    cases hf : p.change.finish with
    | plain => rw [endedRecords_plain hf]; exact hchange
    | supplyLevels => rw [endedRecords_levels hf]; exact hchange
    | clearSupplyLow c n => rw [endedRecords_clear hf]; exact hfloor _ _ hchange

end Sys2Proof.Machine
end

section
/-! PROOFS. The relation of R120, write by write: what each write of a posting does to the banks (R112, R116 to R120). -/

namespace Sys2Proof.Machine

/-! Sums over the entries of a bank -/

/-- What an entry adds to outstanding: ΣS − ΣR + ΣF − ΣK of one merchant (R120). -/
def Entry.net (e : Entry) : Int := e.s - e.r + e.f - e.k

/-- What the entries of a bank add to outstanding (R120). -/
def netSum (t : Table Entry) : Int := (t.map (fun e => e.2.net)).sum

theorem bankBalance_eq (b : Bank) : bankBalance b = b.openingOutstanding + netSum b.entries - b.retiredInPeriod := rfl

@[simp] theorem netSum_cons (e : Nat × Entry) (t : Table Entry) : netSum (e :: t) = e.2.net + netSum t := by
  simp [netSum]

section NetSum

variable {t : Table Entry} {k : Nat}

theorem tableGet_cons (e : Nat × Entry) (t : Table Entry) (k : Nat) :
    tableGet zeroEntry (e :: t) k = if e.1 = k then e.2 else tableGet zeroEntry t k := by
  simp only [tableGet, tableFind]
  split
  · rfl
  · rfl

@[simp] theorem zeroEntry_net : zeroEntry.net = 0 := rfl

/-- A number not above the first of a rising table is not listed after it. -/
theorem tableGet_below {e : Nat × Entry} (hr : rising (e :: t) = true) (hk : k ≤ e.1) :
    tableGet zeroEntry t k = zeroEntry := by
  cases hf : tableFind t k with
  | none => rw [tableGet, hf]; rfl
  | some x => exact absurd ((rising_cons hr).2 _ (mem_of_tableFind hf)) (Nat.not_lt_of_le hk)

theorem netSum_insert (hr : rising t = true) (v : Entry) :
    netSum (tableInsert t k v) = netSum t + v.net - (tableGet zeroEntry t k).net := by
  induction t with
  | nil => simp [tableInsert, netSum, tableGet, tableFind]
  | cons e rest ih =>
    rw [tableGet_cons]
    simp only [tableInsert]
    split
    · next hlt =>
      rw [if_neg (Nat.ne_of_gt hlt), tableGet_below hr (Nat.le_of_lt hlt)]
      simp; omega
    · split
      · simp; omega
      · rw [netSum_cons, ih (rising_cons hr).1, netSum_cons]; omega

theorem netSum_erase (hr : rising t = true) :
    netSum (tableErase t k) = netSum t - (tableGet zeroEntry t k).net := by
  induction t with
  | nil => simp [tableErase, netSum, tableGet, tableFind]
  | cons e rest ih =>
    have hrest := ih (rising_cons hr).1
    rw [tableGet_cons]
    split
    · next he =>
      have herase : tableErase (e :: rest) k = tableErase rest k := by simp [tableErase, he]
      rw [herase, hrest, tableGet_below hr (Nat.le_of_eq he.symm)]
      simp
    · next he =>
      have herase : tableErase (e :: rest) k = e :: tableErase rest k := by simp [tableErase, he]
      rw [herase, netSum_cons, netSum_cons, hrest]
      omega

/-- An entry written moves the sum by what it adds more than the entry that stood there. -/
theorem netSum_put (hr : rising t = true) (v : Entry) :
    netSum (tablePut zeroEntry t k v) = netSum t + v.net - (tableGet zeroEntry t k).net := by
  unfold tablePut
  split
  · next hv => rw [netSum_erase hr, hv, zeroEntry_net, Int.add_zero]
  · exact netSum_insert hr v

theorem rising_put (hr : rising t = true) (v : Entry) : rising (tablePut zeroEntry t k v) = true := by
  unfold tablePut
  split
  · exact rising_erase _ _ hr
  · exact rising_insert _ _ _ hr

/-- A capture of schedule selects leaves the order of the entries and their sum (R124). -/
theorem netSum_foldl_capture (l : Table Merchant) (hr : rising t = true) :
    rising (l.foldl captureOne t) = true ∧ netSum (l.foldl captureOne t) = netSum t := by
  have written : ∀ (t : Table Entry) (k : Nat) (sel : Option Select), rising t = true →
      rising (tablePut zeroEntry t k { tableGet zeroEntry t k with captured := sel }) = true ∧
        netSum (tablePut zeroEntry t k { tableGet zeroEntry t k with captured := sel }) = netSum t :=
    fun t k sel ht => ⟨rising_put ht _, by rw [netSum_put ht]; exact Int.add_sub_cancel _ _⟩
  induction l generalizing t with
  | nil => exact ⟨hr, rfl⟩
  | cons x rest ih =>
    have hone : rising (captureOne t x) = true ∧ netSum (captureOne t x) = netSum t := by
      unfold captureOne
      split
      · exact ⟨hr, rfl⟩
      · exact written t x.1 _ hr
      · exact written t x.1 _ hr
      · exact written t x.1 _ hr
    obtain ⟨hrest, hsum⟩ := ih hone.1
    exact ⟨hrest, hsum.trans hone.2⟩

end NetSum

/-! The banks, number by number -/

/-- An entry that has posted nothing (R112). -/
abbrev QuietEntry (e : Entry) : Prop := e.r = 0 ∧ e.f = 0 ∧ e.s = 0 ∧ e.k = 0

theorem net_of_quiet {e : Entry} (h : QuietEntry e) : e.net = 0 := by
  obtain ⟨hr, hf, hs, hk⟩ := h
  simp [Entry.net, hr, hf, hs, hk]

/-- The period a WITHDRAWN merchant carries is the open one, or that of a closing bank that stands, and then its open entry
has posted nothing (R110, R112). -/
abbrev WithdrawnWell (r : Records) (m : Nat) : Prop :=
  (merchantOf r m).withdrawnIn = some r.totals.openPeriod ∨
  (merchantOf r m).withdrawnIn = some r.closingBank.period ∧ r.closingBank.state ≠ .absent ∧ QuietEntry (openEntry r m)

/-- The period numbers and states of the banks (R117, R118). -/
abbrev BankHeaders (r : Records) : Prop :=
  r.openBank.state = .opened ∧ r.openBank.period = r.totals.openPeriod ∧ r.totals.openPeriod < 8 ∧
  r.closingBank.state ≠ .opened ∧ r.closingBank.period = (r.totals.openPeriod + 7) % 8 ∧
  (r.totals.closeDeferred = true → r.closingBank.state ≠ .absent)

/-- The banks stand as R116 to R120 give them, but that outstanding is short by `v` of the open bank's balance. -/
structure Balanced (v : Int) (r : Records) : Prop where
  entries : rising r.openBank.entries = true
  closingEntries : rising r.closingBank.entries = true
  headers : BankHeaders r
  balance : r.openBank.saturated = false → bankBalance r.openBank = r.totals.outstanding + v
  closed : r.closingBank.state ≠ .absent → r.closingBank.saturated = false →
    r.closingBank.closedOutstanding = some (bankBalance r.closingBank)
  unclosed : ∀ m, (openEntry r m).captured = none ∧ (openEntry r m).statement = none
  withdrawn : ∀ m, (merchantOf r m).state = .withdrawn → WithdrawnWell r m

/-- What holds of the default holds of every listed record exactly when it holds of what every number reads as. -/
theorem forall_listed_iff {α : Type} {dflt : α} {t : Table α} (hr : rising t = true) {p : Nat → α → Prop}
    (hd : ∀ k, p k dflt) : (∀ e ∈ t, p e.1 e.2) ↔ ∀ k, p k (tableGet dflt t k) := by
  constructor
  · intro h k
    cases hf : tableFind t k with
    | none => rw [tableGet, hf]; exact hd k
    | some x => rw [tableGet, hf]; exact h _ (mem_of_tableFind hf)
  · intro h e he
    have hget := h e.1
    rwa [tableGet, (tableFind_eq_some_iff hr e.1 e.2).2 he] at hget

/-- The banks stand as the statement gives them exactly when they do number by number. -/
theorem balanced_iff {r : Records} (h : tablesCanonical r = true) :
    BanksBalance r ∧ WithdrawnQuiet r ↔ Balanced 0 r := by
  obtain ⟨-, -, hmerchants, hopen, hclosing⟩ := (tablesCanonical_iff r).1 h
  have hentries := canonical_rising hopen
  have hcaptured := forall_listed_iff hentries (p := fun _ (e : Entry) => e.captured = none ∧ e.statement = none)
    (dflt := zeroEntry) (fun _ => ⟨rfl, rfl⟩)
  have hwithdrawn := forall_listed_iff (canonical_rising hmerchants) (dflt := unenrolledMerchant)
    (p := fun m (x : Merchant) => x.state = .withdrawn → x.withdrawnIn = some r.totals.openPeriod ∨
      x.withdrawnIn = some r.closingBank.period ∧ r.closingBank.state ≠ .absent ∧ QuietEntry (openEntry r m))
    (fun _ hs => by cases hs)
  constructor
  · rintro ⟨⟨h1, h2, h3, h4, h5, h6, hbalance, hclosed, hunclosed⟩, hquiet⟩
    exact ⟨hentries, canonical_rising hclosing, ⟨h1, h2, h3, h4, h5, h6⟩,
      fun hs => (hbalance hs).trans (Int.add_zero _).symm, hclosed, hcaptured.1 hunclosed, hwithdrawn.1 hquiet⟩
  · rintro ⟨-, -, ⟨h1, h2, h3, h4, h5, h6⟩, hbalance, hclosed, hunclosed, hquiet⟩
    exact ⟨⟨h1, h2, h3, h4, h5, h6, fun hs => (hbalance hs).trans (Int.add_zero _), hclosed, hcaptured.2 hunclosed⟩,
      hwithdrawn.2 hquiet⟩

/-! Writes beside the banks -/

/-- The records differ in nothing the banks are about. -/
structure SameBanks (r r' : Records) : Prop where
  openBank : r'.openBank = r.openBank
  closingBank : r'.closingBank = r.closingBank
  outstanding : r'.totals.outstanding = r.totals.outstanding
  openPeriod : r'.totals.openPeriod = r.totals.openPeriod
  closeDeferred : r'.totals.closeDeferred = r.totals.closeDeferred
  merchants : ∀ m, (merchantOf r' m).state = (merchantOf r m).state ∧
    (merchantOf r' m).withdrawnIn = (merchantOf r m).withdrawnIn

theorem SameBanks.refl (r : Records) : SameBanks r r := ⟨rfl, rfl, rfl, rfl, rfl, fun _ => ⟨rfl, rfl⟩⟩

theorem SameBanks.trans {r s t : Records} (h : SameBanks r s) (k : SameBanks s t) : SameBanks r t where
  openBank := k.openBank.trans h.openBank
  closingBank := k.closingBank.trans h.closingBank
  outstanding := k.outstanding.trans h.outstanding
  openPeriod := k.openPeriod.trans h.openPeriod
  closeDeferred := k.closeDeferred.trans h.closeDeferred
  merchants := fun m => ⟨(k.merchants m).1.trans (h.merchants m).1, (k.merchants m).2.trans (h.merchants m).2⟩

/-- Banks that balance still do where nothing they are about has changed. -/
theorem Balanced.same {v : Int} {r r' : Records} (h : Balanced v r) (k : SameBanks r r') : Balanced v r' where
  entries := k.openBank ▸ h.entries
  closingEntries := k.closingBank ▸ h.closingEntries
  headers := by
    rw [BankHeaders, k.openBank, k.closingBank, k.openPeriod, k.closeDeferred]
    exact h.headers
  balance := by rw [k.openBank, k.outstanding]; exact h.balance
  closed := by rw [k.closingBank]; exact h.closed
  unclosed := by unfold openEntry; rw [k.openBank]; exact h.unclosed
  withdrawn := fun m hm => by
    rw [(k.merchants m).1] at hm
    rw [WithdrawnWell, (k.merchants m).2, k.closingBank, k.openPeriod, openEntry, k.openBank]
    exact h.withdrawn m hm

section Neutral

variable (d : Draft)

theorem sameBanks_commit : SameBanks d.records d.commit.records := { SameBanks.refl d.records with }

theorem sameBanks_putCard (j : Nat) (c : Card) : SameBanks d.records (d.putCard j c).records :=
  { SameBanks.refl d.records with }

theorem sameBanks_placeCard (j : Nat) (c : Card) : SameBanks d.records (d.placeCard j c).records :=
  { SameBanks.refl d.records with }

theorem sameBanks_purgeCard (j : Nat) : SameBanks d.records (d.purgeCard j).records :=
  { SameBanks.refl d.records with }

theorem sameBanks_putLimits (l : Limits) : SameBanks d.records (d.putLimits l).records :=
  { SameBanks.refl d.records with }

/-- A write of a merchant that moves neither its state nor the period it was withdrawn in. -/
theorem sameBanks_putMerchant {m : Nat} {x : Merchant} (hstate : x.state = (merchantOf d.records m).state)
    (hin : x.withdrawnIn = (merchantOf d.records m).withdrawnIn) : SameBanks d.records (d.putMerchant m x).records :=
  { SameBanks.refl d.records with
    merchants := fun k => by
      rw [Draft.putMerchant_records, merchantOf_put]
      split
      · next hk => exact hk ▸ ⟨hstate, hin⟩
      · exact ⟨rfl, rfl⟩ }

theorem sameBanks_addHold (h : Hold) : SameBanks d.records (d.addHold h).records :=
  { sameBanks_putMerchant d (m := h.merchant) (x := { merchantOf d.records h.merchant with
      openHolds := (merchantOf d.records h.merchant).openHolds + 1 }) rfl rfl with }

theorem sameBanks_removeHold (h : Hold) : SameBanks d.records (d.removeHold h).records :=
  { sameBanks_putMerchant d (m := h.merchant) (x := { merchantOf d.records h.merchant with
      openHolds := (merchantOf d.records h.merchant).openHolds - 1 }) rfl rfl with }

theorem sameBanks_evalDeficit (m : Nat) : SameBanks d.records (d.evalDeficit m).records := by
  unfold Draft.evalDeficit
  split
  · exact sameBanks_putMerchant d rfl rfl
  · exact .refl _

theorem sameBanks_evalMerchant (m : Nat) : SameBanks d.records (d.evalMerchant m).records where
  openBank := Draft.evalMerchant_openBank d m
  closingBank := Draft.evalMerchant_closingBank d m
  outstanding := congrArg Totals.outstanding (Draft.evalMerchant_totals d m)
  openPeriod := congrArg Totals.openPeriod (Draft.evalMerchant_totals d m)
  closeDeferred := congrArg Totals.closeDeferred (Draft.evalMerchant_totals d m)
  merchants := fun k =>
    have ⟨hstate, _, _, hin, _⟩ := Draft.evalMerchant_merchant d m k
    ⟨hstate, hin⟩

theorem sameBanks_evalFinalised (reason : RetireReason) : SameBanks d.records (d.evalFinalised reason).records := by
  cases reason
  · exact sameBanks_evalMerchant d 0
  · exact .refl _
  · exact .refl _
  · exact .refl _

theorem sameBanks_evalSettled (c : Card) : SameBanks d.records (d.evalSettled c).records := by
  unfold Draft.evalSettled
  split
  · exact .refl _
  · exact sameBanks_evalFinalised d _

end Neutral

/-! Value moved (R2, R96, R119) -/

/-- What an amount in an accumulator adds to outstanding (R120). -/
def Accum.signed (x : Int) : Accum → Int
  | .r => -x
  | .f => x
  | .s => x
  | .k => -x

section Moves

variable {d : Draft} {v w x : Int} {m : Nat}

/-- An entry of the open bank written: the balance moves by what it adds more than the entry that stood there. -/
theorem Balanced.putEntry {e : Entry} (h : Balanced v d.records) (hw : w = v + e.net - (openEntry d.records m).net)
    (hunclosed : e.captured = none ∧ e.statement = none)
    (hquiet : (merchantOf d.records m).state = .withdrawn → QuietEntry (openEntry d.records m) → QuietEntry e) :
    Balanced w (d.putEntry m e).records := by
  have hentry : ∀ k, openEntry (d.putEntry m e).records k = if k = m then e else openEntry d.records k :=
    openEntry_put d.records d.records.openBank m e
  exact { h with
    entries := rising_put h.entries e
    balance := fun hs => by
      have hbefore := h.balance hs
      have hsum : netSum (tablePut zeroEntry d.records.openBank.entries m e) =
        netSum d.records.openBank.entries + e.net - (openEntry d.records m).net := netSum_put h.entries e
      rw [bankBalance_eq] at hbefore ⊢
      simp only [Draft.putEntry_records, hsum]
      omega
    unclosed := fun k => by
      rw [hentry]
      split
      · exact hunclosed
      · exact h.unclosed k
    withdrawn := fun k hk => by
      rcases h.withdrawn k hk with hopen | ⟨hin, hstands, hentryQuiet⟩
      · exact .inl hopen
      · refine .inr ⟨hin, hstands, ?_⟩
        rw [hentry]
        split
        · next he => exact hquiet (he ▸ hk) (he ▸ hentryQuiet)
        · exact hentryQuiet }

/-- A quantity that saturated takes the relation of R120 with it. -/
theorem Balanced.markSaturated {hit : Bool} (h : hit = false → Balanced v d.records) (k : Balanced w d.records) :
    Balanced v (d.markSaturated hit).records :=
  { k with
    balance := fun hs => by
      simp only [Draft.markSaturated_records, Bool.or_eq_false_iff] at hs
      exact (h hs.2).balance hs.1 }

theorem satPos_of_not_overflows {y : Int} (h : overflows y = false) : satPos y = y := by simpa [overflows] using h

/-- An accumulator raised without saturating adds its amount (R119). -/
theorem net_raiseEntry {e : Entry} {a : Accum} (h : overflows (accumGet e a + x) = false) :
    (raiseEntry e a x).net = e.net + a.signed x := by
  have hsat := satPos_of_not_overflows h
  cases a <;> simp only [raiseEntry, accumSet, accumGet, Entry.net, Accum.signed] at hsat ⊢ <;> omega

theorem raiseEntry_unclosed {e : Entry} (a : Accum) (x : Int) :
    (raiseEntry e a x).captured = e.captured ∧ (raiseEntry e a x).statement = e.statement := by
  cases a <;> exact ⟨rfl, rfl⟩

/-- An accumulator of a merchant that is not WITHDRAWN raised (R119). -/
theorem Balanced.post {a : Accum} {x : Nat} (h : Balanced v d.records)
    (hm : (merchantOf d.records m).state ≠ .withdrawn) (hw : w = v + a.signed x) :
    Balanced w (d.post m a x).records := by
  obtain ⟨hcaptured, hstatement⟩ := raiseEntry_unclosed (e := openEntry d.records m) a x
  have written : ∀ u, u = v + (raiseEntry (openEntry d.records m) a x).net - (openEntry d.records m).net →
      Balanced u (d.putEntry m (raiseEntry (openEntry d.records m) a x)).records := fun u hu =>
    h.putEntry hu ⟨hcaptured.trans (h.unclosed m).1, hstatement.trans (h.unclosed m).2⟩ (fun hs => absurd hs hm)
  exact Balanced.markSaturated (fun hit => written w (by rw [net_raiseEntry hit]; omega)) (written _ rfl)

/-- Outstanding moved (R96). -/
theorem Balanced.addOutstanding (h : Balanced v d.records) (hw : w = v - x) :
    Balanced w (d.addOutstanding x).records :=
  { h with
    balance := fun hs => by
      simp only [Draft.addOutstanding_records, Bool.or_eq_false_iff] at hs
      have hbefore := h.balance hs.1
      rw [bankBalance_eq] at hbefore ⊢
      simp only [Draft.addOutstanding_records, satPos_of_not_overflows hs.2]
      omega }

/-- Retired value and retired in period raised (R97). -/
theorem Balanced.addRetired (h : Balanced v d.records) (hw : w = v - x) : Balanced w (d.addRetired x).records :=
  { h with
    balance := fun hs => by
      simp only [Draft.addRetired_records, Bool.or_eq_false_iff] at hs
      obtain ⟨hbank, -, hperiod⟩ := hs
      have hbefore := h.balance hbank
      rw [bankBalance_eq] at hbefore ⊢
      simp only [Draft.addRetired_records, satPos_of_not_overflows hperiod]
      omega }

theorem Balanced.takeValue {x : Nat} (h : Balanced v d.records) (hm : (merchantOf d.records m).state ≠ .withdrawn) :
    Balanced v (d.takeValue m x).records :=
  (h.post (a := .r) hm rfl).addOutstanding (by simp only [Accum.signed]; omega)

/-- Value moved out of outstanding by a retirement, merchant 0 being one that posts (R41). -/
theorem Balanced.moveOut {x : Nat} {reason : RetireReason} (h : Balanced v d.records)
    (hdesk : (merchantOf d.records 0).state ≠ .withdrawn) : Balanced v (d.moveOut x reason).records := by
  cases reason with
  | cashOut => exact (h.post (a := .k) hdesk rfl).addOutstanding (by simp only [Accum.signed]; omega)
  | closed => exact (h.addRetired rfl).addOutstanding (by omega)
  | expired => exact (h.addRetired rfl).addOutstanding (by omega)
  | transferred => exact h

end Moves

/-! Merchants, cutovers and statements -/

section Periods

variable {d : Draft} {v : Int}

/-- A merchant written, with the period it was withdrawn in as a WITHDRAWN one carries it. -/
theorem Balanced.putMerchant {m : Nat} {x : Merchant} (h : Balanced v d.records)
    (hx : x.state = .withdrawn → x.withdrawnIn = some d.records.totals.openPeriod) :
    Balanced v (d.putMerchant m x).records :=
  { h with
    withdrawn := fun k hk => by
      rw [Draft.putMerchant_records, merchantOf_put] at hk
      rw [Draft.putMerchant_records, WithdrawnWell, merchantOf_put]
      split at hk
      · next he => rw [if_pos he]; exact .inl (hx hk)
      · next he => rw [if_neg he]; exact h.withdrawn k hk }

/-- A cutover of banks that balance: the open bank closes with its balance, and a fresh one opens with what is
outstanding (R124, R125). -/
theorem Balanced.cutover {r : Records} (h : Balanced 0 r) (habsent : r.closingBank.state = .absent) (now : Nat) :
    Balanced 0 (cutoverRecords r now) := by
  obtain ⟨-, hperiod, hlt, -, -, -⟩ := h.headers
  obtain ⟨hrising, hsum⟩ := netSum_foldl_capture r.merchants h.entries
  exact {
    entries := rfl
    closingEntries := hrising
    headers := by
      refine ⟨rfl, rfl, Nat.mod_lt _ (by decide), BankState.noConfusion, ?_, fun _ => BankState.noConfusion⟩
      show r.openBank.period = (nextPeriod r.totals.openPeriod + 7) % 8
      unfold nextPeriod
      omega
    balance := fun _ => by simp [bankBalance_eq, cutoverRecords, freshBank, netSum]
    closed := fun _ hs => by
      have hbalance := h.balance hs
      rw [bankBalance_eq] at hbalance ⊢
      show some r.totals.outstanding = some (r.openBank.openingOutstanding +
        netSum (r.merchants.foldl captureOne r.openBank.entries) - r.openBank.retiredInPeriod)
      rw [hsum, hbalance, Int.add_zero]
    unclosed := fun _ => ⟨rfl, rfl⟩
    withdrawn := fun m hm => by
      rcases h.withdrawn m hm with hopen | ⟨-, hstands, -⟩
      · exact .inr ⟨hopen.trans (congrArg some hperiod.symm), BankState.noConfusion, rfl, rfl, rfl, rfl⟩
      · exact absurd habsent hstands }

end Periods

end Sys2Proof.Machine
end

section
/-! PROOFS. The banks under every posting (R112, R116 to R120). -/

namespace Sys2Proof.Machine

/-! Cards and spends -/

theorem posts_of_salesRefusal {x : Merchant} (h : salesRefusal x = none) : x.state ≠ .withdrawn := by
  intro hs
  rw [salesRefusal, tradingRefusal, hs] at h
  cases h

theorem posts_of_refundRefusal {x : Merchant} (h : refundRefusal x = none) : x.state ≠ .withdrawn := by
  intro hs
  rw [refundRefusal, tradingRefusal, hs] at h
  cases h

section ValuePostings

variable {d : Draft} (hb : Balanced 0 d.records)
include hb

theorem balanced_postCardIssue (x m a v : Nat) : Balanced 0 (postCardIssue x m a v d).1.records := by
  unfold postCardIssue
  split
  · exact hb
  · next hsales =>
    split
    · exact hb
    · simp only
      split
      · exact hb
      · split
        · exact hb
        · next j _ =>
          have hplaced := hb.same (sameBanks_placeCard d j (issuedCard x m a v d.now))
          exact ((hplaced.post (a := .s) (m := m) (posts_of_salesRefusal hsales) rfl).addOutstanding (x := a) (w := 0)
            (by simp only [Accum.signed]; omega)).same ((sameBanks_evalMerchant _ m).trans (sameBanks_commit _))

/-- An approved credit of a merchant that is not WITHDRAWN, into an accumulator that raises outstanding (R35, R73). -/
theorem balanced_creditChanges {m : Nat} (hm : (merchantOf d.records m).state ≠ .withdrawn) (j : Nat) (c : Card)
    {a : Accum} {x : Nat} (hraises : a.signed x = x) : Balanced 0 (creditChanges d j c m a x).records := by
  have hput := hb.same (sameBanks_putCard d j { c with available := c.available + x, lastPostingAt := d.now })
  exact ((hput.post (a := a) (m := m) hm rfl).addOutstanding (x := x) (w := 0) (by omega)).same
    ((sameBanks_evalMerchant _ m).trans (sameBanks_commit _))

theorem balanced_postCardReload (x m a : Nat) : Balanced 0 (postCardReload x m a d).1.records := by
  unfold postCardReload
  split
  · exact hb
  · split
    · exact hb
    · next hsales =>
      split
      · exact hb
      · exact balanced_creditChanges hb (posts_of_salesRefusal hsales) _ _ rfl

theorem balanced_postRefund (x m a : Nat) : Balanced 0 (postRefund x m a d).1.records := by
  unfold postRefund
  split
  · exact hb
  · split
    · exact hb
    · next hrefund =>
      split
      · exact hb
      · exact balanced_creditChanges hb (posts_of_refundRefusal hrefund) _ _ rfl

theorem balanced_postRedeem (x m a : Nat) : Balanced 0 (postRedeem x m a d).1.records := by
  unfold postRedeem
  split
  · exact hb
  · next j c hok =>
    obtain ⟨-, -, hm⟩ := spendChecks_ok hok
    split
    · exact hb
    · next y _ =>
      have hput : Balanced 0 ((d.spendEvents c).putCard j (redeemedCard d c y)).records :=
        hb.same (sameBanks_putCard _ _ _)
      exact (hput.takeValue (m := m) (fun hs => MerchantState.noConfusion (hm.symm.trans hs))).same
        ((sameBanks_evalMerchant _ m).trans (sameBanks_commit _))

theorem balanced_postCardRetire (hdesk : (merchantOf d.records 0).state ≠ .withdrawn) (x : Nat) (reason : RetireReason) :
    Balanced 0 (postCardRetire x reason d).1.records := by
  unfold postCardRetire
  split
  · exact hb
  · next j c _ =>
    split
    · exact hb
    · split
      · have hput := hb.same (sameBanks_putCard d j (retiredCard d.now reason c))
        rw [finalise_eq]
        exact (hput.moveOut hdesk).same ((sameBanks_evalFinalised _ reason).trans (sameBanks_commit _))
      · exact hb.same ((sameBanks_putCard d _ _).trans (sameBanks_commit _))

end ValuePostings

/-! The end of a hold -/

section HoldEnds

variable {d : Draft} (hb : Balanced 0 d.records) (hdesk : (merchantOf d.records 0).state ≠ .withdrawn)
include hb hdesk

/-- A card settled: its value leaves outstanding where its retirement is finalised (R41, R42). -/
theorem balanced_settleCard (j : Nat) (c : Card) : Balanced 0 (d.settleCard j c).records := by
  have hput := hb.same (sameBanks_putCard d j (settledCard d.now c))
  rw [settleCard_eq, Draft.moveSettled]
  split
  · exact hput
  · exact hput.moveOut hdesk

theorem balanced_releaseChanges (h : Hold) (c : Card) : Balanced 0 (releaseChanges d h c).records := by
  have hremoved := sameBanks_removeHold d h
  have hsettled := balanced_settleCard (hb.same hremoved) ((hremoved.merchants 0).1 ▸ hdesk) h.slot
    (endedCard d.now c h h.amount 0)
  exact hsettled.same ((sameBanks_evalSettled _ _).trans (sameBanks_commit _))

/-- A completion for a merchant that is not WITHDRAWN (R63 to R65). -/
theorem balanced_completeChanges {h : Hold} (hm : (merchantOf d.records h.merchant).state ≠ .withdrawn) (c : Card)
    (x back drawn : Nat) : Balanced 0 (completeChanges d h c x back drawn).records := by
  have hremoved := sameBanks_removeHold d h
  have htaken := (hb.same hremoved).takeValue (m := h.merchant) (x := x) ((hremoved.merchants h.merchant).1 ▸ hm)
  have hsettled := balanced_settleCard htaken ((hremoved.merchants 0).1 ▸ hdesk) h.slot
    (endedCard d.now c h back drawn)
  exact hsettled.same ((sameBanks_evalMerchant _ _).trans ((sameBanks_evalSettled _ _).trans (sameBanks_commit _)))

theorem balanced_completeHold {h : Hold} (hm : (merchantOf d.records h.merchant).state ≠ .withdrawn) (c : Card)
    (amount : Nat) : Balanced 0 (completeHold d h c amount).1.records := by
  unfold completeHold
  split
  · exact balanced_releaseChanges hb hdesk h c
  · split
    · exact hb
    · split
      · exact balanced_completeChanges hb hdesk hm c _ _ _
      · unfold completeOver
        split
        · exact balanced_completeChanges hb hdesk hm c _ _ _
        · split
          · exact balanced_completeChanges hb hdesk hm c _ _ _
          · exact hb

theorem balanced_postHoldComplete
    (hnamed : ∀ h ∈ d.records.holds, (merchantOf d.records h.merchant).state ≠ .withdrawn) (id m a : Nat) :
    Balanced 0 (postHoldComplete id m a d).1.records := by
  unfold postHoldComplete
  split
  · exact hb
  · next h hfound =>
    split
    · exact hb
    · split
      · exact hb
      · exact balanced_completeHold hb hdesk (hnamed h (findHold_some hfound).1) _ a

theorem balanced_postHoldVoid (id m : Nat) : Balanced 0 (postHoldVoid id m d).1.records := by
  unfold postHoldVoid
  split
  · exact hb
  · next h _ =>
    split
    · exact hb
    · split
      · exact hb
      · next c _ =>
        have hreleased := balanced_releaseChanges hb hdesk h c
        split
        · exact hreleased
        · exact hreleased

theorem balanced_postExpiry (id : Nat) : Balanced 0 (postExpiry id d).records := by
  unfold postExpiry
  split
  · exact hb
  · next h _ =>
    split
    · exact hb
    · next c _ => exact balanced_releaseChanges hb hdesk h c

end HoldEnds

/-! Postings that move no value -/

section Neutral

variable (d : Draft)

theorem sameBanks_postCardLock (x : Nat) : SameBanks d.records (postCardLock x d).1.records := by
  unfold postCardLock
  split
  · exact .refl _
  · split
    · exact .refl _
    · split
      · exact .refl _
      · exact (sameBanks_putCard d _ _).trans (sameBanks_commit _)

theorem sameBanks_postCardUnlock (x : Nat) : SameBanks d.records (postCardUnlock x d).1.records := by
  unfold postCardUnlock
  split
  · exact .refl _
  · split
    · exact .refl _
    · split
      · exact .refl _
      · exact (sameBanks_putCard d _ _).trans (sameBanks_commit _)

theorem sameBanks_transferToNew (k : Nat) (c : Card) (target : Nat) (free : Option Nat) :
    SameBanks d.records (transferToNew k c target free d).1.records := by
  unfold transferToNew
  split
  · exact .refl _
  · split
    · exact .refl _
    · exact (sameBanks_placeCard d _ _).trans ((sameBanks_putCard _ _ _).trans (sameBanks_commit _))

theorem sameBanks_transferToCard (k : Nat) (c : Card) (j : Nat) (t : Card) :
    SameBanks d.records (transferToCard k c j t d).1.records := by
  unfold transferToCard
  split
  · exact .refl _
  · split
    · exact .refl _
    · exact (sameBanks_putCard d _ _).trans ((sameBanks_putCard _ _ _).trans (sameBanks_commit _))

theorem sameBanks_postCardTransfer (x y : Nat) : SameBanks d.records (postCardTransfer x y d).1.records := by
  unfold postCardTransfer
  split
  · exact .refl _
  · split
    · exact .refl _
    · split
      · exact .refl _
      · split
        · exact .refl _
        · split
          · exact sameBanks_transferToCard d _ _ _ _
          · exact sameBanks_transferToNew d _ _ _ _

theorem sameBanks_postCardPurge (x : Nat) : SameBanks d.records (postCardPurge x d).1.records := by
  unfold postCardPurge
  split
  · exact .refl _
  · split
    · exact (sameBanks_purgeCard d _).trans (sameBanks_commit _)
    · exact .refl _

theorem sameBanks_postHoldPlace (x m a l : Nat) : SameBanks d.records (postHoldPlace x m a l d).1.records := by
  unfold postHoldPlace
  split
  · exact .refl _
  · split
    · exact .refl _
    · split
      · exact .refl _
      · split
        · exact .refl _
        · exact (sameBanks_addHold d _).trans ((sameBanks_putCard _ _ _).trans (sameBanks_commit _))

theorem sameBanks_clearMerchant (dt : Draft × Tally) (m : Nat) :
    SameBanks dt.1.records (clearMerchant dt m).1.records := sameBanks_putMerchant dt.1 rfl rfl

theorem sameBanks_foldl_clear (l : List Nat) (dt : Draft × Tally) :
    SameBanks dt.1.records (l.foldl clearMerchant dt).1.records := by
  induction l generalizing dt with
  | nil => exact .refl _
  | cons m rest ih => exact (sameBanks_clearMerchant dt m).trans (ih _)

theorem sameBanks_clearEnd {dt : Draft × Tally} (h : SameBanks d.records dt.1.records) :
    SameBanks d.records (clearEnd d dt).1.records := by
  unfold clearEnd
  simp only
  split
  · exact .refl _
  · exact h.trans (sameBanks_commit _)

theorem sameBanks_postClearCard (x : Nat) : SameBanks d.records (postClearCard x d).1.records := by
  unfold postClearCard
  split
  · exact .refl _
  · simp only
    split
    · exact (sameBanks_putCard d _ _).trans (sameBanks_commit _)
    · exact .refl _

theorem sameBanks_postLatch (m : Nat) : SameBanks d.records (postLatch m d).records := by
  unfold postLatch
  simp only
  split
  · have hlatched : SameBanks d.records (d.latchRefund m).records := sameBanks_putMerchant d rfl rfl
    exact hlatched.trans (sameBanks_commit _)
  · exact .refl _

theorem sameBanks_postLimitsValue (l : ValueLimits) : SameBanks d.records (postLimitsValue l d).1.records := by
  unfold postLimitsValue
  split
  · exact sameBanks_putLimits d _
  · exact .refl _

theorem sameBanks_postLimitsMonitor (l : MonitorLimits) : SameBanks d.records (postLimitsMonitor l d).1.records := by
  unfold postLimitsMonitor
  split
  · simp only [evalWatermarks_records]
    exact sameBanks_putLimits d _
  · exact .refl _

theorem sameBanks_postLimitsDevice (l : DeviceLimits) : SameBanks d.records (postLimitsDevice l d).1.records := by
  unfold postLimitsDevice
  split
  · exact sameBanks_putLimits d { d.records.limits with device := l }
  · exact .refl _

theorem sameBanks_postScheduleStage (sel : Select) (sc : Schedule) :
    SameBanks d.records (postScheduleStage sel sc d).1.records := by
  unfold postScheduleStage
  split
  · cases sel <;> exact { SameBanks.refl d.records with }
  · exact .refl _

end Neutral

/-! Merchants -/

section MerchantPostings

variable {d : Draft} (hb : Balanced 0 d.records)
include hb

theorem balanced_postMerchantEnrol (m : Nat) (st : Settings) : Balanced 0 (postMerchantEnrol m st d).1.records := by
  by_cases h : (merchantOf d.records m).state = .unenrolled
  · rw [postMerchantEnrol_unenrolled st h]
    exact (hb.putMerchant (m := m) (x := { merchantOf d.records m with state := .enrolled, settings := st })
      (fun hs => by cases hs)).same (sameBanks_commit _)
  · rw [postMerchantEnrol_refused st h]
    exact hb

omit hb in
theorem sameBanks_postMerchantUpdate (m : Nat) (st : Settings) :
    SameBanks d.records (postMerchantUpdate m st d).1.records := by
  have hupdated : SameBanks d.records (updateChanges d m st).records :=
    (sameBanks_putMerchant d (m := m) (x := { merchantOf d.records m with settings := st }) rfl rfl).trans
      (sameBanks_commit _)
  unfold postMerchantUpdate
  split
  · exact .refl _
  · exact .refl _
  · exact hupdated
  · exact hupdated

/-- A merchant moved between ENROLLED and SUSPENDED (R107, R108). -/
theorem balanced_moveMerchant (m : Nat) {st : MerchantState} (hst : st ≠ .withdrawn) :
    Balanced 0 (moveMerchant d m st).records :=
  (hb.putMerchant (m := m) (x := { merchantOf d.records m with state := st }) (fun hs => absurd hs hst)).same
    (sameBanks_commit _)

theorem balanced_postMerchantSuspend (m : Nat) : Balanced 0 (postMerchantSuspend m d).1.records := by
  unfold postMerchantSuspend
  split
  · exact balanced_moveMerchant hb m MerchantState.noConfusion
  · exact hb
  · exact hb
  · exact hb

theorem balanced_postMerchantResume (m : Nat) : Balanced 0 (postMerchantResume m d).1.records := by
  unfold postMerchantResume
  split
  · exact balanced_moveMerchant hb m MerchantState.noConfusion
  · exact hb
  · exact hb
  · exact hb

theorem balanced_withdrawTrading (m : Nat) : Balanced 0 (withdrawTrading m d).1.records := by
  unfold withdrawTrading
  simp only
  split
  · exact hb
  · exact (hb.putMerchant (m := m) (x := { merchantOf d.records m with
      state := .withdrawn, withdrawnIn := some d.records.totals.openPeriod }) (fun _ => rfl)).same (sameBanks_commit _)

theorem balanced_postMerchantWithdraw (m : Nat) : Balanced 0 (postMerchantWithdraw m d).1.records := by
  unfold postMerchantWithdraw
  split
  · exact balanced_withdrawTrading hb m
  · exact balanced_withdrawTrading hb m
  · exact hb
  · exact hb

end MerchantPostings

/-! Periods -/

section Periods

variable {d : Draft} {v : Int} (hb : Balanced v d.records)
include hb

/-- Merchants whose open entries have posted nothing returned to UNENROLLED (R112). -/
theorem balanced_foldl_returnMerchant {l : List Nat} (hquiet : ∀ m ∈ l, QuietEntry (openEntry d.records m)) :
    Balanced v (l.foldl Draft.returnMerchant d).records := by
  induction l generalizing d with
  | nil => exact hb
  | cons m rest ih =>
    have hput : Balanced v (d.putMerchant m
        { unenrolledMerchant with openHolds := (merchantOf d.records m).openHolds }).records :=
      hb.putMerchant (fun hs => by cases hs)
    have hnet : v = v + zeroEntry.net - (openEntry d.records m).net := by
      rw [net_of_quiet (hquiet m List.mem_cons_self), zeroEntry_net]
      omega
    have hreturned : Balanced v (d.returnMerchant m).records :=
      hput.putEntry (m := m) (e := zeroEntry) hnet ⟨rfl, rfl⟩ (fun _ _ => ⟨rfl, rfl, rfl, rfl⟩)
    refine ih hreturned (fun k hk => ?_)
    have hone : openEntry (d.returnMerchant m).records k = if k = m then zeroEntry else openEntry d.records k :=
      openEntry_put d.records d.records.openBank m zeroEntry k
    rw [hone]
    split
    · exact ⟨rfl, rfl, rfl, rfl⟩
    · exact hquiet k (List.mem_cons_of_mem _ hk)

omit hb in
/-- The closing bank freed, once every WITHDRAWN merchant carries the open period (R136). -/
theorem Balanced.freed {r : Records} (h : Balanced v r)
    (hopen : ∀ m, (merchantOf r m).state = .withdrawn → (merchantOf r m).withdrawnIn = some r.totals.openPeriod) :
    Balanced v (undeferred (releaseBank r)) :=
  have ⟨hstate, hperiod, hlt, _, hclosing, _⟩ := h.headers
  { h with
    closingEntries := rfl
    headers := ⟨hstate, hperiod, hlt, BankState.noConfusion, hclosing, Bool.noConfusion⟩
    closed := fun hs => absurd rfl hs
    withdrawn := fun m hm => .inl (hopen m hm) }

omit hb in
/-- The bank may be freed before or after its merchants return. -/
theorem released_records_freed (d : Draft) (q : Nat) : (d.released q).records =
    undeferred (releaseBank ((returnedMerchants d.records q).foldl Draft.returnMerchant d).records) := by
  have hcomm : (returnedMerchants d.records q).foldl Draft.returnMerchant (d.mapRecords releaseBank) =
      ((returnedMerchants d.records q).foldl Draft.returnMerchant d).mapRecords releaseBank :=
    List.foldl_hom (fun d => Draft.mapRecords d releaseBank) (fun _ _ => rfl)
  rw [Draft.released, hcomm]
  rfl

theorem balanced_released (hrising : rising d.records.merchants = true) :
    Balanced v (d.released d.records.closingBank.period).records := by
  obtain ⟨-, -, hlt, -, hclosing, -⟩ := hb.headers
  have hmem := mem_returnedMerchants hrising d.records.closingBank.period
  have htotals : ((returnedMerchants d.records d.records.closingBank.period).foldl Draft.returnMerchant
      d).records.totals = d.records.totals := by rw [foldl_returnMerchant_eq]
  rw [released_records_freed]
  refine (balanced_foldl_returnMerchant hb (fun m hm => ?_)).freed (fun m hm => ?_)
  · obtain ⟨hstate, hin⟩ := (hmem m).1 hm
    rcases hb.withdrawn m hstate with hopen | ⟨-, -, hquiet⟩
    · have := Option.some.inj (hin.symm.trans hopen)
      omega
    · exact hquiet
  · rw [merchantOf_foldl_returnMerchant] at hm ⊢
    rw [htotals]
    split at hm
    · cases hm
    · next hstays =>
      rw [if_neg hstays]
      rcases hb.withdrawn m hm with hopen | ⟨hin, -, -⟩
      · exact hopen
      · exact absurd ((hmem m).2 ⟨hm, hin⟩) hstays

end Periods

section PeriodPostings

variable {d : Draft} (hb : Balanced 0 d.records)
include hb

theorem balanced_postPeriodClose : Balanced 0 (postPeriodClose d).1.records := by
  unfold postPeriodClose
  simp only
  split
  · next habsent => exact (hb.cutover habsent d.now).same (sameBanks_commit d.cutover)
  · exact hb

/-- An alarm cutover of a closing bank that stands sets close-deferred (R129). -/
theorem balanced_postAlarmCutover : Balanced 0 (postAlarmCutover d).records := by
  unfold postAlarmCutover
  split
  · next habsent => exact (hb.cutover habsent d.now).same (sameBanks_commit d.cutover)
  · next hstands =>
    obtain ⟨hstate, hperiod, hlt, hopened, hclosing, -⟩ := hb.headers
    exact { hb with headers := ⟨hstate, hperiod, hlt, hopened, hclosing, fun _ => hstands⟩ }

theorem balanced_postStatementsRelease (hrising : rising d.records.merchants = true) (q : Nat) :
    Balanced 0 (postStatementsRelease q d).1.records := by
  unfold postStatementsRelease
  simp only
  split
  · exact hb
  · exact hb
  · exact hb
  · split
    · exact hb
    · next hperiod =>
      obtain rfl := not_not.1 hperiod
      have hreleased := balanced_released hb hrising
      rw [releasePeriod_eq]
      split
      · have habsent : (d.released d.records.closingBank.period).records.closingBank.state = .absent := by
          rw [released_records]; rfl
        exact (hreleased.cutover habsent _).same (sameBanks_commit (Draft.cutover _))
      · exact hreleased.same (sameBanks_commit _)

omit hb in
theorem readyEvent_records (d : Draft) (m : Nat) : (d.readyEvent m).records = d.records := by
  unfold Draft.readyEvent
  split
  · rfl
  · rfl

/-- The closing bank replaced by one of its period that stands and balances. -/
theorem balanced_closing {b : Bank} (hrising : rising b.entries = true)
    (hperiod : b.period = d.records.closingBank.period) (hopened : b.state ≠ .opened) (hstands : b.state ≠ .absent)
    (hclosed : b.saturated = false → b.closedOutstanding = some (bankBalance b)) :
    Balanced 0 { d.records with closingBank := b } := by
  obtain ⟨hstate, hopen, hlt, -, hclosing, -⟩ := hb.headers
  exact { hb with
    closingEntries := hrising
    headers := ⟨hstate, hopen, hlt, hopened, hperiod.trans hclosing, fun _ => hstands⟩
    closed := fun _ => hclosed
    withdrawn := fun m hm => by
      rcases hb.withdrawn m hm with h | ⟨hin, -, hquiet⟩
      · exact .inl h
      · exact .inr ⟨hin.trans (congrArg some hperiod.symm), hstands, hquiet⟩ }

omit hb in
/-- A bank that turns READY or stays COMPUTING stands. -/
theorem readyOrComputing_stands {p : Prop} [Decidable p] {x : BankState} (h : x = .computing) :
    (if p then BankState.ready else x) ≠ .opened ∧ (if p then BankState.ready else x) ≠ .absent := by
  rw [h]
  split
  · exact ⟨BankState.noConfusion, BankState.noConfusion⟩
  · exact ⟨BankState.noConfusion, BankState.noConfusion⟩

/-- A statement written into a COMPUTING bank moves none of its accumulators (R132, R146). -/
theorem balanced_statementBank (hcomputing : d.records.closingBank.state = .computing) (m : Nat) (st : Statement) :
    Balanced 0 { d.records with closingBank := statementBank d.records.closingBank m st } := by
  obtain ⟨hopened, hstands⟩ := readyOrComputing_stands
    (p := nextDue d.records.closingBank.entries m = Config.nMerchants) hcomputing
  refine balanced_closing hb (rising_put hb.closingEntries _) rfl hopened hstands (fun hs => ?_)
  have hsum : netSum (statementBank d.records.closingBank m st).entries = netSum d.records.closingBank.entries :=
    (netSum_put hb.closingEntries _).trans (Int.add_sub_cancel _ _)
  simp only [statementBank, Bool.or_eq_false_iff] at hs
  rw [bankBalance_eq, hsum]
  exact hb.closed (by rw [hcomputing]; exact BankState.noConfusion) hs.1

/-- A statement step of a COMPUTING bank moves no accumulator of either bank (R132, R146, R147). -/
theorem balanced_postStatementStep (hcomputing : d.records.closingBank.state = .computing) (m : Nat) :
    Balanced 0 (postStatementStep m d).records := by
  unfold postStatementStep
  simp only
  split
  · obtain ⟨hopened, hstands⟩ := readyOrComputing_stands
      (p := nextDue d.records.closingBank.entries m = Config.nMerchants) hcomputing
    simp only [skipStatement, Draft.mapRecords_records, readyEvent_records]
    exact balanced_closing hb hb.closingEntries rfl hopened hstands
      (hb.closed (by rw [hcomputing]; exact BankState.noConfusion))
  · next sel _ =>
    generalize computeStatement (bankSchedule d.records.closingBank sel) (closingEntry d.records m) = st
    have hstated : Balanced 0 ((d.readyEvent m).mapRecords (fun r =>
        { r with closingBank := statementBank r.closingBank m st })).records := by
      rw [Draft.mapRecords_records, readyEvent_records]
      exact balanced_statementBank hb hcomputing m st
    have hentry : openEntry ((d.readyEvent m).mapRecords (fun r =>
        { r with closingBank := statementBank r.closingBank m st })).records m = openEntry d.records m := by
      rw [Draft.mapRecords_records, readyEvent_records]; rfl
    have hcarried := hstated.putEntry (w := 0) (m := m) (e := { openEntry d.records m with dIn := st.dOut })
      (by rw [hentry]; simp [Entry.net]) (hb.unclosed m) (fun _ hquiet => by rw [hentry] at hquiet; exact hquiet)
    exact hcarried.same (sameBanks_evalDeficit _ m)

end PeriodPostings

end Sys2Proof.Machine
end

section
/-! PROOFS. The banks under every step: a grant keeps them by its posting, and any other row by what it does to the records
(R112, R116 to R120). -/

namespace Sys2Proof.Machine

/-- The two banks and the WITHDRAWN merchants stand as R110 to R120 give them. -/
abbrev BanksStand (r : Records) : Prop := BanksBalance r ∧ WithdrawnQuiet r

theorem banksInv_iff (s : State) : banksInv s = true ↔ Stands BanksStand s := by
  simp only [banksInv, Bool.and_eq_true, decide_eq_true_eq, Option.all_eq_true]
  exact ⟨fun h => ⟨h.1, h.2⟩, fun h => ⟨h.records, h.change⟩⟩

/-! Postings -/

/-- A posting keeps the banks when it keeps the tables and the numbers balance after it. -/
theorem banks_of_balanced {d e : Draft} (hk : Kept d e)
    (hb : Agrees 0 d.records → rising d.records.merchants = true → Balanced 0 d.records → Balanced 0 e.records)
    (ha : AccountsAgree d.records) (h : BanksStand d.records) : BanksStand e.records := by
  obtain ⟨htables, hnumbers⟩ := (accountsAgree_iff _).1 ha
  obtain ⟨-, -, hmerchants, -, -⟩ := (tablesCanonical_iff _).1 htables
  exact (balanced_iff (hk.tables htables)).2
    (hb hnumbers (canonical_rising hmerchants) ((balanced_iff htables).1 h))

theorem posts_of_trading {x : Merchant} (h : EnrolledOrSuspended x) : x.state ≠ .withdrawn := by
  rcases h with h | h
  · rw [h]; exact MerchantState.noConfusion
  · rw [h]; exact MerchantState.noConfusion

/-- Merchant 0 is never WITHDRAWN (R101). -/
theorem Agrees.desk_posts {v : Int} {r : Records} (h : Agrees v r) : (merchantOf r 0).state ≠ .withdrawn :=
  posts_of_trading h.desk

/-- A merchant with a hold open is not WITHDRAWN (R53). -/
theorem Agrees.holders_post {v : Int} {r : Records} (h : Agrees v r) :
    ∀ g ∈ r.holds, (merchantOf r g.merchant).state ≠ .withdrawn := fun g hg =>
  have ⟨_, _, _, _, _, hall⟩ := h.holds
  have ⟨_, _, _, _, htrades⟩ := hall g hg
  posts_of_trading htrades

/-- Every request of the Posting class keeps the banks, of accounts that agree. -/
theorem request_keeps_banks {i : Instr} (hq : isRequest i = true) (hr : isRead i = false) :
    ∃ body, (∀ s, exec i s = .next (grantLink (readsServed s) i body)) ∧
      ∀ d, AccountsAgree d.records → BanksStand d.records → BanksStand (body d).1.records := by
  cases i <;> simp only [isRequest, isRead, Bool.false_eq_true, reduceCtorEq] at hq hr
  case cardIssue => exact ⟨_, fun _ => rfl, fun d => banks_of_balanced (kept_postCardIssue d _ _ _ _) fun _ _ h =>
    balanced_postCardIssue h _ _ _ _⟩
  case cardReload => exact ⟨_, fun _ => rfl, fun d => banks_of_balanced (kept_postCardReload d _ _ _) fun _ _ h =>
    balanced_postCardReload h _ _ _⟩
  case cardLock => exact ⟨_, fun _ => rfl, fun d => banks_of_balanced (kept_postCardLock d _) fun _ _ h =>
    h.same (sameBanks_postCardLock d _)⟩
  case cardUnlock => exact ⟨_, fun _ => rfl, fun d => banks_of_balanced (kept_postCardUnlock d _) fun _ _ h =>
    h.same (sameBanks_postCardUnlock d _)⟩
  case cardRetire => exact ⟨_, fun _ => rfl, fun d => banks_of_balanced (kept_postCardRetire d _ _) fun ha _ h =>
    balanced_postCardRetire h ha.desk_posts _ _⟩
  case cardTransfer => exact ⟨_, fun _ => rfl, fun d => banks_of_balanced (kept_postCardTransfer d _ _) fun _ _ h =>
    h.same (sameBanks_postCardTransfer d _ _)⟩
  case cardPurge => exact ⟨_, fun _ => rfl, fun d => banks_of_balanced (kept_postCardPurge d _) fun _ _ h =>
    h.same (sameBanks_postCardPurge d _)⟩
  case redeem => exact ⟨_, fun _ => rfl, fun d => banks_of_balanced (kept_postRedeem d _ _ _) fun _ _ h =>
    balanced_postRedeem h _ _ _⟩
  case holdPlace => exact ⟨_, fun _ => rfl, fun d => banks_of_balanced (kept_postHoldPlace d _ _ _ _) fun _ _ h =>
    h.same (sameBanks_postHoldPlace d _ _ _ _)⟩
  case holdComplete => exact ⟨_, fun _ => rfl, fun d => banks_of_balanced (kept_postHoldComplete d _ _ _) fun ha _ h =>
    balanced_postHoldComplete h ha.desk_posts ha.holders_post _ _ _⟩
  case holdVoid => exact ⟨_, fun _ => rfl, fun d => banks_of_balanced (kept_postHoldVoid d _ _) fun ha _ h =>
    balanced_postHoldVoid h ha.desk_posts _ _⟩
  case refund => exact ⟨_, fun _ => rfl, fun d => banks_of_balanced (kept_postRefund d _ _ _) fun _ _ h =>
    balanced_postRefund h _ _ _⟩
  case merchantEnrol => exact ⟨_, fun _ => rfl, fun d => banks_of_balanced (kept_postMerchantEnrol d _ _) fun _ _ h =>
    balanced_postMerchantEnrol h _ _⟩
  case merchantUpdate => exact ⟨_, fun _ => rfl, fun d => banks_of_balanced (kept_postMerchantUpdate d _ _) fun _ _ h =>
    h.same (sameBanks_postMerchantUpdate _ _)⟩
  case merchantSuspend => exact ⟨_, fun _ => rfl, fun d => banks_of_balanced (kept_postMerchantSuspend d _) fun _ _ h =>
    balanced_postMerchantSuspend h _⟩
  case merchantResume => exact ⟨_, fun _ => rfl, fun d => banks_of_balanced (kept_postMerchantResume d _) fun _ _ h =>
    balanced_postMerchantResume h _⟩
  case merchantWithdraw => exact ⟨_, fun _ => rfl, fun d => banks_of_balanced (kept_postMerchantWithdraw d _) fun _ _ h =>
    balanced_postMerchantWithdraw h _⟩
  case scheduleStage => exact ⟨_, fun _ => rfl, fun d => banks_of_balanced (kept_postScheduleStage d _ _) fun _ _ h =>
    h.same (sameBanks_postScheduleStage d _ _)⟩
  case periodClose => exact ⟨_, fun _ => rfl, fun d => banks_of_balanced (kept_postPeriodClose d) fun _ _ h =>
    balanced_postPeriodClose h⟩
  case statementsRelease => exact ⟨_, fun _ => rfl, fun d =>
    banks_of_balanced (kept_postStatementsRelease d _) fun _ hm h => balanced_postStatementsRelease h hm _⟩
  case conditionsClearDevice => exact ⟨_, fun _ => rfl, fun d =>
    banks_of_balanced (kept_postClearDevice d) fun _ _ h => h⟩
  case conditionsClearMerchant => exact ⟨_, fun _ => rfl, fun d =>
    banks_of_balanced (kept_postClearMerchant d _) fun _ _ h =>
      h.same (sameBanks_clearEnd d (sameBanks_clearMerchant (d, _) _))⟩
  case conditionsClearAllMerchants => exact ⟨_, fun _ => rfl, fun d =>
    banks_of_balanced (kept_postClearAllMerchants d) fun _ _ h =>
      h.same (sameBanks_clearEnd d (sameBanks_foldl_clear _ (d, _)))⟩
  case conditionsClearCard => exact ⟨_, fun _ => rfl, fun d => banks_of_balanced (kept_postClearCard d _) fun _ _ h =>
    h.same (sameBanks_postClearCard d _)⟩
  case limitsSetValue => exact ⟨_, fun _ => rfl, fun d => banks_of_balanced (kept_postLimitsValue d _) fun _ _ h =>
    h.same (sameBanks_postLimitsValue d _)⟩
  case limitsSetMonitor => exact ⟨_, fun _ => rfl, fun d => banks_of_balanced (kept_postLimitsMonitor d _) fun _ _ h =>
    h.same (sameBanks_postLimitsMonitor d _)⟩
  case limitsSetDevice => exact ⟨_, fun _ => rfl, fun d => banks_of_balanced (kept_postLimitsDevice d _) fun _ _ h =>
    h.same (sameBanks_postLimitsDevice d _)⟩

/-! Steps -/

section Steps

variable {s t : State} (ha : Stands AccountsAgree s) (hb : Stands BanksStand s)
include ha hb

/-- The grant of an internal posting that keeps the banks on the records it is granted on. -/
theorem grantInternal_banks {k : Kind} {item : Item} {body : Draft → Draft}
    (hbody : Grants s k item → AccountsAgree s.records → BanksStand s.records →
      BanksStand (body (startDraft s)).records) :
    Stands BanksStand (grantInternal s k item body) := by
  rcases grantInternal_cases s k item body with h | ⟨hchoice, hcandidate, h⟩ <;> rw [h]
  · exact hb
  · refine ⟨hb.records, fun p hp => ?_⟩
    obtain rfl := Option.some.inj hp
    exact hbody ⟨hchoice, hcandidate⟩ ha.records hb.records

theorem grantLink_banks {i : Instr} {body : Draft → Draft × Answer}
    (hbody : ∀ d, AccountsAgree d.records → BanksStand d.records → BanksStand (body d).1.records) :
    Stands BanksStand (grantLink s i body) := by
  rcases grantLink_cases s i body with h | ⟨q, -, -, -, h⟩ <;> rw [h]
  · exact hb
  · refine ⟨hb.records, fun p hp => ?_⟩
    obtain rfl := Option.some.inj hp
    exact hbody _ ha.records hb.records

theorem expiryGrant_banks : Stands BanksStand (expiryGrant s) := by
  unfold expiryGrant
  split
  · exact hb
  · next id _ =>
    exact grantInternal_banks ha hb fun _ => banks_of_balanced (kept_postExpiry (startDraft s) id)
      fun hnumbers _ h => balanced_postExpiry h hnumbers.desk_posts id

theorem latchGrant_banks : Stands BanksStand (latchGrant s) := by
  unfold latchGrant
  split
  · exact hb
  · exact grantInternal_banks ha hb fun _ => banks_of_balanced (kept_postLatch (startDraft s) _)
      fun _ _ h => h.same (sameBanks_postLatch _ _)

/-- A statement step is granted only for a bank that is COMPUTING (R89). -/
theorem stepGrant_banks : Stands BanksStand (stepGrant s) := by
  unfold stepGrant
  split
  · exact hb
  · next m _ =>
    exact grantInternal_banks ha hb fun hgrants => banks_of_balanced (kept_postStatementStep (startDraft s) m)
      fun _ _ h =>
        have ⟨_, _, hcomputing⟩ := grants_step hgrants
        balanced_postStatementStep h hcomputing m

theorem alarmGrant_banks : Stands BanksStand (grantInternal s .settlement .alarm postAlarmCutover) :=
  grantInternal_banks ha hb fun _ => banks_of_balanced (kept_postAlarmCutover (startDraft s))
    fun _ _ h => balanced_postAlarmCutover h

/-- Every row keeps the banks: a grant by its posting, any other by what it does to the records. -/
theorem exec_keeps_banks {i : Instr} (h : exec i s = .next t) : Stands BanksStand t := by
  have served := (readsServed_settled s).recordsKept
  cases hgrant : isGrant i with
  | false =>
    obtain ⟨u, hkept, hend⟩ := exec_recordsEnd hgrant h
    exact hend.stands (fun _ _ h => h) (hkept.stands hb)
  | true =>
    rcases isGrant_cases hgrant with rfl | rfl | rfl | rfl | ⟨hreq, hread⟩
    · obtain rfl := Host.Outcome.next.inj h
      exact expiryGrant_banks (served.stands ha) (served.stands hb)
    · obtain rfl := Host.Outcome.next.inj h
      exact alarmGrant_banks (served.stands ha) (served.stands hb)
    · obtain rfl := Host.Outcome.next.inj h
      exact stepGrant_banks (served.stands ha) (served.stands hb)
    · obtain rfl := Host.Outcome.next.inj h
      exact latchGrant_banks (served.stands ha) (served.stands hb)
    · obtain ⟨body, hrow, hbody⟩ := request_keeps_banks hreq hread
      obtain rfl := Host.Outcome.next.inj ((hrow s).symm.trans h)
      exact grantLink_banks (served.stands ha) (served.stands hb) hbody

end Steps

/-- Settles O59: every posting moves a bank's sums and outstanding together, and only postings write them. -/
theorem stepKeepsTheBanks : Obligations.StepKeepsTheBanks := by
  unfold Obligations.StepKeepsTheBanks
  intro s t haccounts hbanks h
  rw [accountsInv_iff] at haccounts
  rw [banksInv_iff] at hbanks ⊢
  unfold step at h
  split at h
  · obtain rfl := Host.Outcome.next.inj h
    exact hbanks
  · next c rest _ =>
    have queued : RecordsKept s { s with pending := rest } := ⟨rfl, fun p hp => ⟨p, hp, rfl⟩⟩
    exact exec_keeps_banks (queued.stands haccounts) (queued.stands hbanks) h

end Sys2Proof.Machine
end

section
/-! PROOFS. SCHEDULE_STAGE, PERIOD_CLOSE and ALARM_CUTOVER, and what a cutover does to the records (R118, R121, R122, R124 to
R126, R129). -/

namespace Sys2Proof.Machine

/-! Staging (R121, R122) -/

/-- The validity of a schedule, with each threshold judged only where it is used (R121). -/
theorem scheduleValid_iff (sc : Schedule) : scheduleValid sc = true ↔
    1 ≤ sc.tiers ∧ sc.tiers ≤ 4 ∧ (2 ≤ sc.tiers → 1 ≤ sc.t1) ∧ (3 ≤ sc.tiers → sc.t1 < sc.t2) ∧
      (4 ≤ sc.tiers → sc.t2 < sc.t3) := by
  simp only [scheduleValid, Bool.and_eq_true, Bool.or_eq_true, decide_eq_true_eq]
  omega

/-- What is stored of a schedule: the fields its tier count uses, and 0 elsewhere (R121). -/
theorem normalSchedule_eq (sc : Schedule) : normalSchedule sc =
    { tiers := sc.tiers, c1 := sc.c1, allowance := sc.allowance,
      t1 := if 2 ≤ sc.tiers then sc.t1 else 0, c2 := if 2 ≤ sc.tiers then sc.c2 else 0,
      t2 := if 3 ≤ sc.tiers then sc.t2 else 0, c3 := if 3 ≤ sc.tiers then sc.c3 else 0,
      t3 := if 4 ≤ sc.tiers then sc.t3 else 0, c4 := if 4 ≤ sc.tiers then sc.c4 else 0 } := by
  simp only [normalSchedule, ← Nat.not_le, ite_not]

theorem postScheduleStage_valid {sc : Schedule} (h : scheduleValid sc = true) (sel : Select) (d : Draft) :
    postScheduleStage sel sc d =
      ((d.mapRecords (fun r => stage r (normalSchedule sc) sel)).commit, answer .ok (field 1 (selectCode sel))) := if_pos h

theorem postScheduleStage_invalid {sc : Schedule} (h : ¬ scheduleValid sc = true) (sel : Select) (d : Draft) :
    postScheduleStage sel sc d = (d, refuse .scheduleInvalid) := if_neg h

/-- Settles O42, by the validity of the schedule and its selector. -/
theorem scheduleStageReplaces : Obligations.ScheduleStageReplaces := by
  unfold Obligations.ScheduleStageReplaces
  intro s sel sc q hg valid stored floored
  have hstored : normalSchedule sc = stored := normalSchedule_eq sc
  have hvalid : scheduleValid sc = true ↔ valid := scheduleValid_iff sc
  refine ⟨fun h hsel => ?selectorA, fun h hsel => ?selectorB, fun h => ?invalid⟩
  case selectorA =>
    subst hsel
    rw [← hstored]
    exact exec_judged hg rfl (postScheduleStage_valid (hvalid.2 h) .a (startDraft s))
  case selectorB =>
    subst hsel
    rw [← hstored]
    exact exec_judged hg rfl (postScheduleStage_valid (hvalid.2 h) .b (startDraft s))
  case invalid => exact exec_judged hg rfl (postScheduleStage_invalid (mt hvalid.1 h) sel (startDraft s))

/-! Selects captured (R124) -/

/-- An entry with the schedule select of its merchant captured, where the merchant is not UNENROLLED (R124). -/
def capturedEntry (x : Merchant) (e : Entry) : Entry :=
  if x.state = .unenrolled then e else { e with captured := some x.settings.select }

theorem captureOne_eq (t : Table Entry) (x : Nat × Merchant) : captureOne t x =
    if x.2.state = .unenrolled then t
    else tablePut zeroEntry t x.1 { tableGet zeroEntry t x.1 with captured := some x.2.settings.select } := by
  unfold captureOne
  split
  case h_1 h => rw [if_pos h]
  case h_2 h => rw [if_neg (by simp [h])]
  case h_3 h => rw [if_neg (by simp [h])]
  case h_4 h => rw [if_neg (by simp [h])]

theorem tableGet_captureOne (t : Table Entry) (x : Nat × Merchant) (k : Nat) :
    tableGet zeroEntry (captureOne t x) k =
      if k = x.1 then capturedEntry x.2 (tableGet zeroEntry t k) else tableGet zeroEntry t k := by
  rw [captureOne_eq, capturedEntry]
  by_cases hk : k = x.1
  · subst hk
    split
    · simp
    · simp
  · split
    · simp
    · simp [hk, tableGet_put_ne]

/-- The first number of a rising table is not listed again behind it. -/
theorem tableGet_tail {α : Type} (dflt : α) {e : Nat × α} {t : Table α} (h : rising (e :: t) = true) :
    tableGet dflt t e.1 = dflt := by
  cases hf : tableFind t e.1 with
  | none => rw [tableGet, hf]; rfl
  | some x => exact absurd ((rising_cons h).2 _ (mem_of_tableFind hf)) (Nat.lt_irrefl _)

/-- A capture over a merchant table captures every merchant's select in its own entry. -/
theorem tableGet_foldl_capture {l : Table Merchant} (h : rising l = true) (t : Table Entry) (k : Nat) :
    tableGet zeroEntry (l.foldl captureOne t) k =
      capturedEntry (tableGet unenrolledMerchant l k) (tableGet zeroEntry t k) := by
  induction l generalizing t with
  | nil => rfl
  | cons x rest ih =>
    rw [List.foldl_cons, ih (rising_cons h).1, tableGet_captureOne]
    by_cases hk : k = x.1
    · subst hk
      rw [tableGet_tail unenrolledMerchant h, if_pos rfl]
      simp [tableGet, tableFind, capturedEntry, unenrolledMerchant]
    · simp [tableGet, tableFind, hk, Ne.symm hk]

/-! Cutover (R124, R125) -/

theorem closingEntry_cutoverRecords {r : Records} (h : rising r.merchants = true) (now m : Nat) :
    closingEntry (cutoverRecords r now) m = capturedEntry (merchantOf r m) (openEntry r m) :=
  tableGet_foldl_capture h r.openBank.entries m

theorem cutoverRecords_tables {r : Records} (h : tablesCanonical r = true) (now : Nat) :
    tablesCanonical (cutoverRecords r now) = true := by
  obtain ⟨hdir, hcards, hmerchants, hopen, -⟩ := (tablesCanonical_iff r).1 h
  have hclosing : canonical zeroEntry (r.merchants.foldl captureOne r.openBank.entries) = true :=
    List.foldlRecOn r.merchants captureOne hopen (fun t ht x _ => canonical_captureOne t x ht)
  exact (tablesCanonical_iff _).2 ⟨hdir, hcards, hmerchants, rfl, hclosing⟩

/-- Settles O20: beside the selects captured in the entries, a cutover writes two bank headers, the staged flags and the
period. -/
theorem cutoverExchangesTheBanks : Obligations.CutoverExchangesTheBanks := by
  unfold Obligations.CutoverExchangesTheBanks
  intro r now htables r'
  obtain ⟨-, -, hmerchants, -, -⟩ := (tablesCanonical_iff r).1 htables
  exact ⟨rfl, closingEntry_cutoverRecords (canonical_rising hmerchants) now, rfl, rfl, rfl, rfl, rfl, rfl, ⟨rfl, rfl⟩,
    ⟨rfl, rfl⟩, rfl, cutoverRecords_tables htables now⟩

/-- A posting that cuts over writes its now into the floor, empties the Qualification List, withdraws the alarm and sets
CLOSE_DONE (R125). -/
theorem cutover_commit_eq (s : State) : (startDraft s).cutover.commit = { startDraft s with
    records := { cutoverRecords s.records s.clock.value with totals :=
      { s.records.totals with openPeriod := (s.records.totals.openPeriod + 1) % 8, floor := s.clock.value } }
    qual := []
    events := 0x04#8
    clearsAlarm := true } := by
  rw [← BitVec.zero_or (x := 0x04#8)]
  rfl

/-! The postings that cut over (R126, R129) -/

theorem postPeriodClose_absent {d : Draft} (h : d.records.closingBank.state = .absent) :
    postPeriodClose d = (d.cutover.commit,
      answer .ok (field 1 d.records.totals.openPeriod ++ field 1 (nextPeriod d.records.totals.openPeriod) ++
        field 4 d.now ++ posField d.records.totals.outstanding)) := if_pos h

theorem postPeriodClose_pending {d : Draft} (h : d.records.closingBank.state ≠ .absent) :
    postPeriodClose d = (d, answer .statementPending (field 1 d.records.closingBank.period ++
      field 1 (bankStateCode d.records.closingBank.state))) := if_neg h

theorem postAlarmCutover_absent {d : Draft} (h : d.records.closingBank.state = .absent) :
    postAlarmCutover d = d.cutover.commit := if_pos h

/-- An alarm whose cutover cannot be made defers it (R129). -/
theorem postAlarmCutover_deferred {s : State} (h : s.records.closingBank.state ≠ .absent) :
    postAlarmCutover (startDraft s) = { startDraft s with
      records := { s.records with totals := { s.records.totals with closeDeferred := true, floor := s.clock.value } }
      events := 0x10#8
      clearsAlarm := true } := by
  rw [← BitVec.zero_or (x := 0x10#8)]
  exact if_neg h

theorem grantInternal_granted {s : State} {k : Kind} {item : Item} (h : Grants s k item) (body : Draft → Draft) :
    grantInternal s k item body =
      internalUnderWay s k item (if needsClock item then some s.clock.value else none) (body (startDraft s)) := if_pos h

theorem exec_alarmCutover_granted {s : State} (hwaits : NoReadWaits s) (h : Grants s .settlement .alarm) :
    exec .alarmCutover s = .next
      (internalUnderWay s .settlement .alarm (some s.clock.value) (postAlarmCutover (startDraft s))) := by
  have hrow : exec .alarmCutover s =
      .next (grantInternal (readsServed s) .settlement .alarm postAlarmCutover) := rfl
  rw [hrow, readsServed_none hwaits, grantInternal_granted h]
  rfl

/-- Settles O43: each posting cuts over exactly when the closing bank is ABSENT. -/
theorem closeAndAlarmCutOver : Obligations.CloseAndAlarmCutOver := by
  unfold Obligations.CloseAndAlarmCutOver
  intro s q t now cut deferred
  have hcut : (startDraft s).cutover.commit = cut := cutover_commit_eq s
  refine ⟨fun hg => ⟨fun h => ?closed, fun h => ?pending⟩, fun hwaits hturn halarm => ?alarm⟩
  case closed =>
    rw [← hcut]
    exact exec_judged hg rfl (postPeriodClose_absent (d := startDraft s) h)
  case pending => exact exec_judged hg rfl (postPeriodClose_pending (d := startDraft s) h)
  case alarm =>
    have hrow := exec_alarmCutover_granted hwaits ⟨hturn, if_pos halarm⟩
    refine ⟨fun h => ?_, fun h => ?_⟩
    · rw [hrow, postAlarmCutover_absent (d := startDraft s) h, hcut]
    · rw [hrow, postAlarmCutover_deferred h]

end Sys2Proof.Machine
end

section
/-! PROOFS. STATEMENT_STEP in full (R132, R146 to R148, R150, R152, R155). -/

namespace Sys2Proof.Machine

/-! The next statement due (R132) -/

/-- In a rising table the first entry that passes a test has the lowest number of those that pass it. -/
theorem find?_rising_le {α : Type} {t : Table α} (h : rising t = true) {p : Nat × α → Bool} {e x : Nat × α}
    (he : t.find? p = some e) (hx : x ∈ t) (hp : p x = true) : e.1 ≤ x.1 := by
  induction t with
  | nil => cases hx
  | cons y rest ih =>
    obtain ⟨hr, hlt⟩ := rising_cons h
    by_cases hy : p y = true
    · rw [List.find?_cons_of_pos hy] at he
      obtain rfl := Option.some.inj he
      rcases List.mem_cons.1 hx with rfl | hrest
      · exact Nat.le_refl _
      · exact Nat.le_of_lt (hlt x hrest)
    · rw [List.find?_cons_of_neg hy] at he
      rcases List.mem_cons.1 hx with rfl | hrest
      · exact absurd hp hy
      · exact ih hr he hrest

/-- The next merchant is one whose statement is due, or there is none. -/
theorem nextDue_due {t : Table Entry} (h : rising t = true) (m : Nat) :
    nextDue t m = 512 ∨ m < nextDue t m ∧ (tableGet zeroEntry t (nextDue t m)).captured.isSome = true := by
  unfold nextDue
  split
  · next e he =>
    obtain ⟨hlt, hdue⟩ : m < e.1 ∧ e.2.captured.isSome = true := by simpa using List.find?_some he
    have hlisted : tableGet zeroEntry t e.1 = e.2 := by
      rw [tableGet, (tableFind_eq_some_iff h e.1 e.2).2 (List.mem_of_find?_eq_some he)]; rfl
    exact .inr ⟨hlt, by rw [hlisted]; exact hdue⟩
  · exact .inl rfl

/-- No statement is due between a merchant and the next one. -/
theorem not_due_before_nextDue {t : Table Entry} (h : rising t = true) (m k : Nat) (hmk : m < k)
    (hk : k < nextDue t m) : (tableGet zeroEntry t k).captured = none := by
  have hlisted : ∀ e ∈ t, m < e.1 → e.1 < nextDue t m → e.2.captured = none := by
    intro e he hme hlt
    by_contra hcaptured
    have hdue : (decide (m < e.1) && e.2.captured.isSome) = true := by
      simp [hme, Option.isSome_iff_ne_none, hcaptured]
    unfold nextDue at hlt
    split at hlt
    · next first hfirst => exact absurd (find?_rising_le h hfirst he hdue) (Nat.not_le_of_lt hlt)
    · next hnone => exact List.find?_eq_none.1 hnone e he hdue
  exact (forall_listed_iff h (p := fun k (e : Entry) => m < k → k < nextDue t m → e.captured = none)
    (fun _ _ _ => rfl)).1 hlisted k hmk hk

/-! The changes of the step -/

/-- The change-set of a statement step before DEFICIT is evaluated: the statement written, its D_out carried into the open
entry, and STATEMENTS_READY where it was the last (R132, R146, R147). -/
def statedDraft (s : State) (m : Nat) (st : Statement) : Draft :=
  { startDraft s with
    records := { s.records with
      closingBank := statementBank s.records.closingBank m st
      openBank := { s.records.openBank with
        entries := tablePut zeroEntry s.records.openBank.entries m { openEntry s.records m with dIn := st.dOut } } }
    events := if nextDue s.records.closingBank.entries m = 512 then 0x08#8 else 0x00#8 }

theorem readyEvent_eq (d : Draft) (m : Nat) : d.readyEvent m = { d with
    events := d.events |||
      (if nextDue d.records.closingBank.entries m = Config.nMerchants then 0x08#8 else 0x00#8) } := by
  unfold Draft.readyEvent
  split
  · rfl
  · rw [BitVec.or_zero]

theorem stepChanges_eq (s : State) (m : Nat) (st : Statement) :
    stepChanges (startDraft s) m st = (statedDraft s m st).evalDeficit m := by
  rw [stepChanges, readyEvent_eq, startDraft_events, BitVec.zero_or]
  rfl

theorem postStatementStep_due {s : State} {m : Nat} {sel : Select}
    (h : (closingEntry s.records m).captured = some sel) : postStatementStep m (startDraft s) =
      (statedDraft s m (computeStatement (bankSchedule s.records.closingBank sel) (closingEntry s.records m))).evalDeficit
        m := by
  simp only [postStatementStep, startDraft_records, h, stepChanges_eq]

section Stated

variable (s : State) (m : Nat) (st : Statement)

theorem openEntry_statedDraft (k : Nat) : openEntry (statedDraft s m st).records k =
    if k = m then { openEntry s.records m with dIn := st.dOut } else openEntry s.records k :=
  openEntry_put s.records s.records.openBank m _ k

theorem openEntry_evalDeficit_statedDraft (k : Nat) :
    openEntry ((statedDraft s m st).evalDeficit m).records k =
      if k = m then { openEntry s.records m with dIn := st.dOut } else openEntry s.records k :=
  (openEntry_evalDeficit _ m k).trans (openEntry_statedDraft s m st k)

/-- DEFICIT of the step's merchant latches: it is live on the open entry with the D_out carried into it, and not latched
(R148, R150, R155). -/
def stepLatches (s : State) (m : Nat) (st : Statement) : Bool :=
  deficitLive s.records.limits.monitor { openEntry s.records m with dIn := st.dOut } &&
    !(merchantOf s.records m).deficitLatched

theorem evalDeficit_statedDraft_spec :
    let x := merchantOf s.records m
    (∀ k, merchantOf ((statedDraft s m st).evalDeficit m).records k =
      if k = m then
        { x with
          deficitLatched := x.deficitLatched || stepLatches s m st
          salesBlocked := x.salesBlocked || stepLatches s m st && inSet s.records.limits.device.operate .deficit }
      else merchantOf s.records k) ∧
    ((statedDraft s m st).evalDeficit m).events =
      (statedDraft s m st).events ||| (if stepLatches s m st then 0x40#8 else 0x00#8) := by
  have hspec := Draft.evalDeficit_spec (statedDraft s m st) m
  rw [openEntry_statedDraft, if_pos rfl] at hspec
  exact hspec

/-- The step changes the two banks, the merchants and the events, and nothing else. -/
theorem evalDeficit_statedDraft_eq : (statedDraft s m st).evalDeficit m = { startDraft s with
    records := { s.records with
      closingBank := ((statedDraft s m st).evalDeficit m).records.closingBank
      merchants := ((statedDraft s m st).evalDeficit m).records.merchants
      openBank := { s.records.openBank with
        entries := ((statedDraft s m st).evalDeficit m).records.openBank.entries } }
    events := ((statedDraft s m st).evalDeficit m).events } := by
  have hbeside : (statedDraft s m st).evalDeficit m = { statedDraft s m st with
      records := { (statedDraft s m st).records with merchants := ((statedDraft s m st).evalDeficit m).records.merchants }
      qual := ((statedDraft s m st).evalDeficit m).qual
      events := ((statedDraft s m st).evalDeficit m).events } := evalDeficit_beside _ m
  rw [Draft.evalDeficit_qual] at hbeside
  rw [Draft.evalDeficit_closingBank, Draft.evalDeficit_openBank]
  exact hbeside

theorem evalDeficit_statedDraft_merchantsKept :
    MerchantsKept s.records ((statedDraft s m st).evalDeficit m).records [m] := by
  obtain ⟨hmerchant, -⟩ := evalDeficit_statedDraft_spec s m st
  refine ⟨fun k hk => ?_, fun k => ?_⟩
  · rw [hmerchant, if_neg (by simpa using hk)]
  · rw [hmerchant]
    split
    · next hk => subst hk; exact ⟨rfl, rfl, rfl⟩
    · exact ⟨rfl, rfl, rfl⟩

end Stated

/-- The closing bank after a step, READY once no further statement is due (R132). -/
theorem statementBank_computing {b : Bank} (h : b.state = .computing) (m : Nat) (st : Statement) :
    statementBank b m st = { b with
      entries := tablePut zeroEntry b.entries m { tableGet zeroEntry b.entries m with statement := some st }
      saturated := b.saturated || st.saturated
      nextMerchant := some (nextDue b.entries m)
      state := if nextDue b.entries m = 512 then .ready else .computing } := by
  simp only [statementBank, h, Config.nMerchants]

/-! The row -/

theorem grants_step_of {s : State} {m : Nat} (hturn : arbiterChoice s = some .settlement)
    (halarm : s.alarmPending = false) (hdue : latchDue s = none)
    (hcomputing : s.records.closingBank.state = .computing) (hnext : s.records.closingBank.nextMerchant = some m) :
    Grants s .settlement (.step m) :=
  ⟨hturn, by simp [candidate, settlementCandidate, halarm, hdue, hcomputing, hnext]⟩

theorem exec_statementStep_granted {s : State} {m : Nat} (hwaits : NoReadWaits s) (h : Grants s .settlement (.step m))
    (hnext : s.records.closingBank.nextMerchant = some m) : exec .statementStep s =
      .next (internalUnderWay s .settlement (.step m) none (postStatementStep m (startDraft s))) := by
  have hrow : exec .statementStep s = .next (stepGrant (readsServed s)) := rfl
  rw [hrow, readsServed_none hwaits, stepGrant]
  simp only [hnext, grantInternal_granted h]
  rfl

/-- Settles O21: the statement is written and its D_out carried, and DEFICIT is then evaluated on the entry that carries
it. -/
theorem statementStepWritesTheStatement : Obligations.StatementStepWritesTheStatement := by
  unfold Obligations.StatementStepWritesTheStatement
  intro s m sel hwaits hturn halarm hdue hcomputing hnext hcaptured hrising b st x e l latches
  have hrow := exec_statementStep_granted hwaits (grants_step_of hturn halarm hdue hcomputing hnext) hnext
  rw [postStatementStep_due hcaptured] at hrow
  obtain ⟨hmerchant, hevents⟩ := evalDeficit_statedDraft_spec s m st
  have hentry := openEntry_evalDeficit_statedDraft s m st
  refine ⟨_, nextDue b.entries m, hrow, ?bank, not_due_before_nextDue hrising m, nextDue_due hrising m,
    (hentry m).trans (if_pos rfl), fun k hk => (hentry k).trans (if_neg (by simpa using hk)),
    (hmerchant m).trans (if_pos rfl), evalDeficit_statedDraft_merchantsKept s m st, ?frame⟩
  case bank =>
    rw [Draft.evalDeficit_closingBank]
    exact statementBank_computing hcomputing m st
  case frame =>
    have heq := evalDeficit_statedDraft_eq s m st
    rw [hevents] at heq
    exact heq

end Sys2Proof.Machine
end

section
/-! PROOFS. The figures of a statement (R138 to R145, R149). -/

namespace Sys2Proof.Machine

/-! The tiers of a schedule (R121, R140) -/

/-- The rate of tier `i` of a schedule, for `i` from 1 to 4 (R121). -/
def tierRate (sc : Schedule) (i : Nat) : Int :=
  if i = 1 then sc.c1 else if i = 2 then sc.c2 else if i = 3 then sc.c3 else sc.c4

theorem tierRate_nonneg (sc : Schedule) (i : Nat) : 0 ≤ tierRate sc i := by
  unfold tierRate
  split_ifs <;> exact Int.natCast_nonneg _

theorem tierRate_le {sc : Schedule} (h1 : sc.c1 < 65536) (h2 : sc.c2 < 65536) (h3 : sc.c3 < 65536) (h4 : sc.c4 < 65536)
    (i : Nat) : tierRate sc i ≤ 65535 := by
  unfold tierRate
  split_ifs <;> omega

theorem threshold_eq_ite (sc : Schedule) (i : Nat) :
    (threshold sc i : Int) = if i = 1 then (sc.t1 : Int) else if i = 2 then sc.t2 else sc.t3 := by
  unfold threshold
  split <;> simp_all

/-- The used thresholds of a valid schedule rise (R121). -/
theorem threshold_lt_succ {sc : Schedule} (hv : scheduleValid sc = true) {i : Nat} (hi : 1 ≤ i) (hn : i + 1 < sc.tiers) :
    threshold sc i < threshold sc (i + 1) := by
  obtain ⟨-, hfour, -, hsecond, hthird⟩ := (scheduleValid_iff sc).1 hv
  obtain rfl | rfl : i = 1 ∨ i = 2 := by omega
  · exact hsecond (by omega)
  · exact hthird (by omega)

section Tiers
variable (sc : Schedule) (base : Int)

theorem tierEdge_zero : tierEdge sc base 0 = 0 := if_pos rfl

theorem tierEdge_unbounded {i : Nat} (hi : i ≠ 0) (h : sc.tiers ≤ i) : tierEdge sc base i = base :=
  (if_neg hi).trans (if_pos h)

theorem tierEdge_bounded {i : Nat} (hi : i ≠ 0) (h : i < sc.tiers) : tierEdge sc base i = min base (threshold sc i) :=
  (if_neg hi).trans (if_neg (Nat.not_le.2 h))

variable {sc base}

/-- The edges of a valid schedule's tiers do not fall (R140). -/
theorem tierEdge_le_succ (hv : scheduleValid sc = true) (hb : 0 ≤ base) {i : Nat} (h : i < sc.tiers) :
    tierEdge sc base i ≤ tierEdge sc base (i + 1) := by
  rcases Nat.eq_zero_or_pos i with rfl | hi
  · rw [tierEdge_zero]
    by_cases hlast : sc.tiers ≤ 1
    · rwa [tierEdge_unbounded sc base Nat.one_ne_zero hlast]
    · rw [tierEdge_bounded sc base Nat.one_ne_zero (Nat.not_le.1 hlast)]
      exact le_min hb (Int.natCast_nonneg _)
  · rw [tierEdge_bounded sc base hi.ne' h]
    by_cases hlast : sc.tiers ≤ i + 1
    · rw [tierEdge_unbounded sc base i.succ_ne_zero hlast]
      exact min_le_left _ _
    · rw [tierEdge_bounded sc base i.succ_ne_zero (Nat.not_le.1 hlast)]
      exact min_le_min_left _ (Int.ofNat_le.2 (threshold_lt_succ hv hi (Nat.not_le.1 hlast)).le)

theorem tierPortion_nonneg (hv : scheduleValid sc = true) (hb : 0 ≤ base) {i : Nat} (h : i < sc.tiers) :
    0 ≤ tierPortion sc base (i + 1) :=
  Int.sub_nonneg_of_le (tierEdge_le_succ hv hb h)

theorem tierPortion_unused {i : Nat} (hused : 1 ≤ sc.tiers) (h : sc.tiers ≤ i) : tierPortion sc base (i + 1) = 0 := by
  rw [tierPortion, Nat.add_sub_cancel, tierEdge_unbounded sc base i.succ_ne_zero (Nat.le_succ_of_le h),
    tierEdge_unbounded sc base (Nat.ne_of_gt (Nat.le_trans hused h)) h, Int.sub_self]

/-- The portions add up to the base: a telescoping sum of edges (R140). -/
theorem sum_tierPortion (hused : 1 ≤ sc.tiers) :
    ((List.range sc.tiers).map (fun i => tierPortion sc base (i + 1))).sum = base := by
  have htelescope := List.sum_range_sub sc.tiers (tierEdge sc base)
  rwa [tierEdge_zero, tierEdge_unbounded sc base (Nat.ne_of_gt hused) (Nat.le_refl _), Int.sub_zero] at htelescope

/-! The commission and the allowance (R141, R142) -/

/-- The products of the tiers beyond the tier count add nothing (R140, R141). -/
theorem sum_tierProducts_of_le (hused : 1 ≤ sc.tiers) {n : Nat} (hn : sc.tiers ≤ n) :
    ((List.range n).map (fun i => tierPortion sc base (i + 1) * tierRate sc (i + 1))).sum =
      ((List.range sc.tiers).map (fun i => tierPortion sc base (i + 1) * tierRate sc (i + 1))).sum := by
  induction n, hn using Nat.le_induction with
  | base => rfl
  | succ n hn ih => rw [List.sum_range_succ, ih, tierPortion_unused hused hn, Int.zero_mul, Int.add_zero]

/-- The commission sum is the sum over the used tiers (R141). -/
theorem commissionSum_eq (hv : scheduleValid sc = true) : commissionSum sc base =
    ((List.range sc.tiers).map (fun i => tierPortion sc base (i + 1) * tierRate sc (i + 1))).sum := by
  obtain ⟨hused, hfour, -⟩ := (scheduleValid_iff sc).1 hv
  rw [← sum_tierProducts_of_le hused hfour]
  simp [commissionSum, List.sum_range_succ, tierRate]

theorem commissionSum_nonneg (hv : scheduleValid sc = true) (hb : 0 ≤ base) : 0 ≤ commissionSum sc base := by
  rw [commissionSum_eq hv]
  refine List.sum_nonneg (List.forall_mem_map.2 fun i hi => ?_)
  exact Int.mul_nonneg (tierPortion_nonneg hv hb (List.mem_range.1 hi)) (tierRate_nonneg sc _)

/-- With each rate at most 65,535 the sum is at most 65,535 times the base (R141). -/
theorem commissionSum_le (hv : scheduleValid sc = true) (hb : 0 ≤ base) (hrate : ∀ i, tierRate sc i ≤ 65535) :
    commissionSum sc base ≤ base * 65535 := by
  obtain ⟨hused, -⟩ := (scheduleValid_iff sc).1 hv
  calc commissionSum sc base
      = ((List.range sc.tiers).map (fun i => tierPortion sc base (i + 1) * tierRate sc (i + 1))).sum :=
        commissionSum_eq hv
    _ ≤ ((List.range sc.tiers).map (fun i => tierPortion sc base (i + 1) * 65535)).sum :=
        List.sum_le_sum fun i hi =>
          Int.mul_le_mul_of_nonneg_left (hrate _) (tierPortion_nonneg hv hb (List.mem_range.1 hi))
    _ = base * 65535 := by rw [List.sum_map_mul_right, sum_tierPortion hused]

end Tiers

theorem rateShare_nonneg {x : Int} (h : 0 ≤ x) : 0 ≤ rateShare x := by
  unfold rateShare
  omega

/-- A share at rate words of at most 65,535 is at most the whole (R141, R142). -/
theorem rateShare_le {x y : Int} (hy : 0 ≤ y) (h : x ≤ y * 65535) : rateShare x ≤ y := by
  unfold rateShare
  omega

/-! The net (R143, R145) -/

theorem neg_posMax_le_satPos (x : Int) : -Config.posMax ≤ satPos x := le_max_left _ _

theorem overflows_of_range {x : Int} (hlow : -140737488355327 ≤ x) (hhigh : x ≤ 140737488355327) :
    overflows x = false := by
  simp [overflows, satPos_of_range hlow hhigh]

/-- The first two terms do not saturate, so the net is the outcome of the last four steps (R143). -/
theorem netOf_eq {e : Entry} {c : Int} (hr : 0 ≤ e.r ∧ e.r ≤ 140737488355327) (hf : 0 ≤ e.f ∧ e.f ≤ 140737488355327)
    (hc : 0 ≤ c ∧ c ≤ max (e.r - e.f) 0) (a : Int) :
    let n3 := satPos (e.r - e.f - c - e.s)
    let n4 := satPos (n3 + a)
    let n5 := satPos (n4 + e.k)
    netOf e c a = (satPos (n5 - e.dIn),
      overflows (e.r - e.f - c - e.s) || overflows (n3 + a) || overflows (n4 + e.k) || overflows (n5 - e.dIn)) := by
  have hfirst : netStep (0, false) (e.r - e.f) = (e.r - e.f, false) := by
    rw [netStep, Int.zero_add, satPos_of_range (by omega) (by omega), overflows_of_range (by omega) (by omega),
      Bool.or_self]
  have hsecond : netStep (e.r - e.f, false) (-c) = (e.r - e.f - c, false) := by
    rw [netStep, ← Int.sub_eq_add_neg, satPos_of_range (by omega) (by omega), overflows_of_range (by omega) (by omega),
      Bool.or_self]
  rw [netOf, List.foldl_cons, hfirst, List.foldl_cons, hsecond]
  rfl

/-- Steps that leave the flag clear form the exact sum of their terms (R143, R145). -/
theorem foldl_netStep_exact {terms : List Int} {acc : Int} {hit : Bool}
    (h : (terms.foldl netStep (acc, hit)).2 = false) :
    hit = false ∧ (terms.foldl netStep (acc, hit)).1 = acc + terms.sum := by
  induction terms generalizing acc hit with
  | nil => exact ⟨h, (Int.add_zero acc).symm⟩
  | cons x rest ih =>
    obtain ⟨hclear, hsum⟩ := ih h
    obtain ⟨hhit, hin⟩ := Bool.or_eq_false_iff.1 hclear
    refine ⟨hhit, hsum.trans ?_⟩
    rw [satPos_of_not_overflows hin, List.sum_cons, Int.add_assoc]

/-- A net formed with no saturation is the exact sum of the six terms (R143, R149). -/
theorem netOf_exact {e : Entry} {c a : Int} (h : (netOf e c a).2 = false) :
    (netOf e c a).1 = (e.r - e.f) - c - e.s + a + e.k - e.dIn := by
  obtain ⟨-, hsum⟩ := foldl_netStep_exact h
  refine hsum.trans ?_
  simp only [List.sum_cons, List.sum_nil]
  omega

/-- Settles O45: the portions telescope to the base and bound the commission, the allowance is one rounded share, and the net
is six saturating steps of which the first two stay in range. -/
theorem statementFigures : Obligations.StatementFigures := by
  unfold Obligations.StatementFigures
  intro sc e hv h1 h2 h3 h4 ha hr hf hs _ _ st edge p rate n3 n4 n5
  obtain ⟨hused, -⟩ := (scheduleValid_iff sc).1 hv
  have hbase : 0 ≤ st.base := le_max_right _ _
  have hp : p = tierPortion sc st.base := by
    funext i
    simp only [p, edge, tierPortion, tierEdge, threshold_eq_ite]
  have hcommission : 0 ≤ st.commission ∧ st.commission ≤ st.base :=
    ⟨rateShare_nonneg (commissionSum_nonneg hv hbase),
      rateShare_le hbase (commissionSum_le hv hbase (tierRate_le h1 h2 h3 h4))⟩
  have hallowance : 0 ≤ st.allowance ∧ st.allowance ≤ e.s :=
    ⟨rateShare_nonneg (Int.mul_nonneg hs.1 (Int.natCast_nonneg _)),
      rateShare_le hs.1 (Int.mul_le_mul_of_nonneg_left (by omega) hs.1)⟩
  have hnet := netOf_eq hr hf hcommission st.allowance
  refine ⟨rfl, fun i hi hn => ?portions, ?sum, ?commission, hcommission.1, hcommission.2, rfl, hallowance.1, hallowance.2,
    congrArg Prod.fst hnet, congrArg Prod.snd hnet, netOf_exact, rfl, rfl, ?carried, ?one, ?bound⟩
  case portions =>
    obtain ⟨j, rfl⟩ := Nat.exists_eq_add_of_le' hi
    rw [hp]
    exact tierPortion_nonneg hv hbase hn
  case sum =>
    rw [hp]
    exact sum_tierPortion hused
  case commission =>
    rw [hp]
    exact congrArg rateShare (commissionSum_eq hv)
  case carried => exact max_zero_sub_max_neg_zero_eq_self st.net
  case one => exact (le_total st.net 0).imp max_eq_right fun h => max_eq_right (Int.neg_nonpos_of_nonneg h)
  case bound =>
    have hlow : -Config.posMax ≤ st.net :=
      (neg_posMax_le_satPos (n5 - e.dIn)).trans_eq (congrArg Prod.fst hnet).symm
    exact max_le (Int.neg_le_of_neg_le hlow) (hr.1.trans hr.2)

end Sys2Proof.Machine
end

section
/-! PROOFS. The conditions in every change-set (R155, R157, R161): blocks and VELOCITY causes stand only while their condition
is latched, and the Qualification List keeps its order. -/

namespace Sys2Proof.Machine

/-! The Qualification List (R157) -/

section List

variable {q a b : Qual} {l : List Qual} {m : Nat}

theorem qualBefore_iff (a b : Qual) :
    qualBefore a b = true ↔ a.due < b.due ∨ a.due = b.due ∧ a.merchant < b.merchant := decide_eq_true_iff

theorem qualBefore_trans {c : Qual} (h : qualBefore a b = true) (k : qualBefore b c = true) : qualBefore a c = true := by
  rw [qualBefore_iff] at *
  omega

/-- Of two entries of different merchants one stands before the other. -/
theorem qualBefore_of_not (hne : a.merchant ≠ b.merchant) (h : ¬ qualBefore a b = true) : qualBefore b a = true := by
  rw [qualBefore_iff] at *
  omega

theorem insertQual_perm (q : Qual) (l : List Qual) : (insertQual q l).Perm (q :: l) := by
  induction l with
  | nil => exact .refl _
  | cons p rest ih =>
    rw [insertQual]
    split
    · exact .refl _
    · exact (ih.cons p).trans (.swap q p rest)

/-- An entry of a merchant that is not on the list is added in its place. -/
theorem pairwise_insertQual (hnew : ∀ k ∈ l, k.merchant ≠ q.merchant) (h : l.Pairwise (fun a b => qualBefore a b = true)) :
    (insertQual q l).Pairwise (fun a b => qualBefore a b = true) := by
  induction l with
  | nil => exact List.pairwise_singleton _ q
  | cons p rest ih =>
    obtain ⟨hp, hrest⟩ := List.pairwise_cons.1 h
    rw [insertQual]
    split
    · next hqp =>
      refine List.pairwise_cons.2 ⟨fun k hk => ?_, h⟩
      rcases List.mem_cons.1 hk with rfl | hk
      · exact hqp
      · exact qualBefore_trans hqp (hp k hk)
    · next hqp =>
      refine List.pairwise_cons.2 ⟨fun k hk => ?_, ih (fun k hk => hnew k (List.mem_cons_of_mem _ hk)) hrest⟩
      rcases (mem_insertQual q rest k).1 hk with rfl | hk
      · exact qualBefore_of_not (hnew p List.mem_cons_self).symm hqp
      · exact hp k hk

theorem nodup_insertQual (hnew : ∀ k ∈ l, k.merchant ≠ q.merchant) (h : (l.map Qual.merchant).Nodup) :
    ((insertQual q l).map Qual.merchant).Nodup := by
  rw [((insertQual_perm q l).map Qual.merchant).nodup_iff, List.map_cons, List.nodup_cons]
  refine ⟨fun hmem => ?_, h⟩
  obtain ⟨k, hk, hkq⟩ := List.mem_map.1 hmem
  exact hnew k hk hkq

theorem not_isPending_iff : ¬ isPending l m = true ↔ ∀ k ∈ l, k.merchant ≠ m := by
  simp [isPending]

end List

/-! What a change-set meets -/

/-- A block stands only while its condition is latched (R161). -/
def BlocksLatched (x : Merchant) : Prop :=
  (x.refundsBlocked = true → x.refundLatched = true) ∧ (x.salesBlocked = true → x.deficitLatched = true)

/-- A VELOCITY cause stands only while VELOCITY is latched (R161). -/
def CauseLatched (c : Card) : Prop := c.locks.velocity = true → c.velocityLatched = true

/-- The conditions of a change-set stand as R157 and R161 give them. -/
structure ConditionsMet (d : Draft) : Prop where
  merchants : ∀ e ∈ d.records.merchants, BlocksLatched e.2
  cards : ∀ e ∈ d.records.cards, CauseLatched e.2
  order : d.qual.Pairwise (fun a b => qualBefore a b = true)
  single : (d.qual.map Qual.merchant).Nodup
  unlatched : ∀ k ∈ d.qual, (merchantOf d.records k.merchant).refundLatched = false

theorem conditionsMet_iff (d : Draft) : ConditionsMet d ↔ ActionsLatched d.records ∧ QualInOrder d.records d.qual :=
  ⟨fun h => ⟨⟨h.merchants, h.cards⟩, h.order, h.single, h.unlatched⟩,
    fun ⟨⟨hmerchants, hcards⟩, horder, hsingle, hunlatched⟩ => ⟨hmerchants, hcards, horder, hsingle, hunlatched⟩⟩

theorem mem_tablePut {α : Type} [DecidableEq α] {dflt v : α} {t : Table α} {k : Nat} {e : Nat × α}
    (h : e ∈ tablePut dflt t k v) : e = (k, v) ∨ e ∈ t := by
  unfold tablePut at h
  split at h
  · exact .inr (List.mem_of_mem_filter h)
  · exact mem_tableInsert _ _ _ _ h

theorem blocksLatched_unenrolled (n : Nat) : BlocksLatched { unenrolledMerchant with openHolds := n } :=
  ⟨Bool.false_ne_true.elim, Bool.false_ne_true.elim⟩

/-! Writes of a change-set -/

section Writes

variable {d : Draft} (h : ConditionsMet d)
include h

/-- A change that writes no merchant and no card and leaves the list. -/
theorem ConditionsMet.same {e : Draft} (hm : e.records.merchants = d.records.merchants)
    (hc : e.records.cards = d.records.cards) (hq : e.qual = d.qual) : ConditionsMet e where
  merchants := hm ▸ h.merchants
  cards := hc ▸ h.cards
  order := hq ▸ h.order
  single := hq ▸ h.single
  unlatched := by
    unfold merchantOf
    rw [hm, hq]
    exact h.unlatched

theorem ConditionsMet.merchant (m : Nat) : BlocksLatched (merchantOf d.records m) := by
  unfold merchantOf tableGet
  cases hf : tableFind d.records.merchants m with
  | none => exact blocksLatched_unenrolled 0
  | some x => exact h.merchants _ (mem_of_tableFind hf)

theorem ConditionsMet.card {j : Nat} {c : Card} (hc : tableFind d.records.cards j = some c) : CauseLatched c :=
  h.cards _ (mem_of_tableFind hc)

theorem ConditionsMet.putCard (j : Nat) {c : Card} (hc : CauseLatched c) : ConditionsMet (d.putCard j c) where
  merchants := h.merchants
  cards := fun e he => by
    rcases mem_tableInsert _ _ _ _ he with rfl | he
    · exact hc
    · exact h.cards e he
  order := h.order
  single := h.single
  unlatched := h.unlatched

theorem ConditionsMet.placeCard (j : Nat) {c : Card} (hc : CauseLatched c) : ConditionsMet (d.placeCard j c) :=
  (h.putCard j hc).same rfl rfl rfl

theorem ConditionsMet.purgeCard (j : Nat) : ConditionsMet (d.purgeCard j) where
  merchants := h.merchants
  cards := fun e he => h.cards e (List.mem_of_mem_filter he)
  order := h.order
  single := h.single
  unlatched := h.unlatched

/-- A merchant written, with REFUND_RATIO latched only if it is not on the list. -/
theorem ConditionsMet.putMerchant {m : Nat} {x : Merchant} (hx : BlocksLatched x)
    (hlist : x.refundLatched = true → ∀ k ∈ d.qual, k.merchant ≠ m) : ConditionsMet (d.putMerchant m x) where
  merchants := fun e he => by
    rcases mem_tablePut he with rfl | he
    · exact hx
    · exact h.merchants e he
  cards := h.cards
  order := h.order
  single := h.single
  unlatched := fun k hk => by
    rw [Draft.putMerchant_records, merchantOf_put]
    split
    · next hkm => exact Bool.eq_false_iff.2 fun hlatched => hlist hlatched k hk hkm
    · exact h.unlatched k hk

/-- A merchant with REFUND_RATIO latched is not on the list. -/
theorem ConditionsMet.not_listed {m : Nat} (hlatched : (merchantOf d.records m).refundLatched = true) :
    ∀ k ∈ d.qual, k.merchant ≠ m := by
  rintro k hk rfl
  rw [h.unlatched k hk] at hlatched
  cases hlatched

/-- A merchant written with REFUND_RATIO latched at most as it was. -/
theorem ConditionsMet.rewriteMerchant {m : Nat} {x : Merchant} (hx : BlocksLatched x)
    (hlatched : x.refundLatched = true → (merchantOf d.records m).refundLatched = true) :
    ConditionsMet (d.putMerchant m x) :=
  h.putMerchant hx fun hl => h.not_listed (hlatched hl)

theorem ConditionsMet.eraseQual (m : Nat) : ConditionsMet { d with qual := eraseQual d.qual m } where
  merchants := h.merchants
  cards := h.cards
  order := h.order.filter _
  single := h.single.sublist (List.filter_sublist.map _)
  unlatched := fun k hk => h.unlatched k (List.mem_of_mem_filter hk)

theorem ConditionsMet.insertQual {m : Nat} (due : Nat) (hlatched : (merchantOf d.records m).refundLatched = false)
    (hnew : ∀ k ∈ d.qual, k.merchant ≠ m) :
    ConditionsMet { d with qual := insertQual { merchant := m, due := due } d.qual } where
  merchants := h.merchants
  cards := h.cards
  order := pairwise_insertQual hnew h.order
  single := nodup_insertQual hnew h.single
  unlatched := fun k hk => by
    rcases (mem_insertQual _ _ _).1 hk with rfl | hk
    · exact hlatched
    · exact h.unlatched k hk

/-- A list emptied, whatever else is written beside merchants and cards. -/
theorem ConditionsMet.emptied {e : Draft} (hm : e.records.merchants = d.records.merchants)
    (hc : e.records.cards = d.records.cards) (hq : e.qual = []) : ConditionsMet e where
  merchants := hm ▸ h.merchants
  cards := hc ▸ h.cards
  order := hq ▸ .nil
  single := hq ▸ .nil
  unlatched := fun k hk => by rw [hq] at hk; cases hk

/-! Evaluations (R152, R155) -/

theorem ConditionsMet.latchRefund {m : Nat} (hnew : ∀ k ∈ d.qual, k.merchant ≠ m) : ConditionsMet (d.latchRefund m) :=
  (h.putMerchant (m := m) (x := { merchantOf d.records m with
    refundLatched := true
    refundsBlocked := (merchantOf d.records m).refundsBlocked || inSet d.records.limits.device.operate .refundRatio })
    ⟨fun _ => rfl, (h.merchant m).2⟩ fun _ => hnew).same rfl rfl rfl

theorem ConditionsMet.latchDeficit (m : Nat) : ConditionsMet (d.latchDeficit m) :=
  (h.rewriteMerchant (m := m) (x := { merchantOf d.records m with
    deficitLatched := true
    salesBlocked := (merchantOf d.records m).salesBlocked || inSet d.records.limits.device.operate .deficit })
    ⟨(h.merchant m).1, fun _ => rfl⟩ id).same rfl rfl rfl

theorem ConditionsMet.evalDeficit (m : Nat) : ConditionsMet (d.evalDeficit m) := by
  unfold Draft.evalDeficit
  split
  · exact h.latchDeficit m
  · exact h

/-- The table of R152: a merchant joins the list, or latches, only while it is neither latched nor on the list. -/
theorem ConditionsMet.evalRefund (m : Nat) : ConditionsMet (d.evalRefund m) := by
  unfold Draft.evalRefund
  split
  · split
    · exact h
    · next hlatched =>
      split
      · exact h
      · next hpending =>
        have hnew := not_isPending_iff.1 hpending
        split
        · exact h.latchRefund hnew
        · exact h.insertQual _ (Bool.eq_false_iff.2 hlatched) hnew
  · exact h.eraseQual m

theorem ConditionsMet.evalMerchant (m : Nat) : ConditionsMet (d.evalMerchant m) := (h.evalDeficit m).evalRefund m

theorem ConditionsMet.evalFinalised (reason : RetireReason) : ConditionsMet (d.evalFinalised reason) := by
  cases reason with
  | cashOut => exact h.evalMerchant 0
  | closed => exact h
  | expired => exact h
  | transferred => exact h

theorem ConditionsMet.evalSettled (c : Card) : ConditionsMet (d.evalSettled c) := by
  unfold Draft.evalSettled
  split
  · exact h
  · exact h.evalFinalised _

end Writes

/-! Cards (R38, R41, R161) -/

theorem causeLatched_of_unlocked {c : Card} (h : c.locks.velocity = false) : CauseLatched c := fun hv => by
  rw [h] at hv
  cases hv

/-- A spend adds the VELOCITY cause only where VELOCITY latches (R38, R75). -/
theorem causeLatched_spendCard (l : Limits) (now : Nat) {c : Card} (h : CauseLatched c) :
    CauseLatched (spendCard l now c) := by
  rw [spendCard_eq, countSpend_eq]
  generalize velocityLatches l.monitor now _ = latches
  intro hv
  simp only [Bool.or_eq_true, Bool.and_eq_true] at hv ⊢
  exact hv.imp h And.left

section Cards

variable {d : Draft} (h : ConditionsMet d)
include h

theorem ConditionsMet.finalise (j : Nat) (c : Card) (reason : RetireReason) : ConditionsMet (d.finalise j c reason) := by
  have hput : ConditionsMet (d.putCard j (retiredCard d.now reason c)) := h.putCard j (causeLatched_of_unlocked rfl)
  cases reason with
  | cashOut => exact hput.same rfl rfl rfl
  | closed => exact hput.same rfl rfl rfl
  | expired => exact hput.same rfl rfl rfl
  | transferred => exact hput

theorem ConditionsMet.settleCard (j : Nat) {c : Card} (hc : CauseLatched c) : ConditionsMet (d.settleCard j c) := by
  unfold Draft.settleCard
  split
  · exact h.putCard j hc
  · exact h.finalise j c _

/-- A merchant's open holds counted. -/
theorem ConditionsMet.countHolds (m n : Nat) :
    ConditionsMet (d.putMerchant m { merchantOf d.records m with openHolds := n }) :=
  h.rewriteMerchant (h.merchant m) id

theorem ConditionsMet.addHold (g : Hold) : ConditionsMet (d.addHold g) := (h.countHolds _ _).same rfl rfl rfl

theorem ConditionsMet.removeHold (g : Hold) : ConditionsMet (d.removeHold g) := (h.countHolds _ _).same rfl rfl rfl

end Cards

end Sys2Proof.Machine
end

section
/-! PROOFS. The conditions under every posting (R155, R157, R160, R161). -/

namespace Sys2Proof.Machine

/-! Cards and spends -/

section CardPostings

variable {d : Draft} (h : ConditionsMet d)
include h

theorem conditions_postCardIssue (x m a v : Nat) : ConditionsMet (postCardIssue x m a v d).1 := by
  unfold postCardIssue
  split
  · exact h
  · split
    · exact h
    · simp only
      split
      · exact h
      · split
        · exact h
        · next j _ =>
          have hplaced := h.placeCard j (c := issuedCard x m a v d.now) (causeLatched_of_unlocked rfl)
          have hposted : ConditionsMet (((d.placeCard j (issuedCard x m a v d.now)).post m .s a).addOutstanding a) :=
            hplaced.same rfl rfl rfl
          exact (hposted.evalMerchant m).same rfl rfl rfl

theorem conditions_creditChanges (j : Nat) {c : Card} (hc : CauseLatched c) (m : Nat) (a : Accum) (x : Nat) :
    ConditionsMet (creditChanges d j c m a x) := by
  have hput := h.putCard j (c := { c with available := c.available + x, lastPostingAt := d.now }) hc
  have hposted : ConditionsMet (((d.putCard j { c with
      available := c.available + x, lastPostingAt := d.now }).post m a x).addOutstanding x) := hput.same rfl rfl rfl
  exact (hposted.evalMerchant m).same rfl rfl rfl

theorem conditions_postCardReload (x m a : Nat) : ConditionsMet (postCardReload x m a d).1 := by
  unfold postCardReload
  split
  · exact h
  · next j c hok =>
    split
    · exact h
    · split
      · exact h
      · exact conditions_creditChanges h j (h.card (usableCard_ok hok).1) m .s a

theorem conditions_postRefund (x m a : Nat) : ConditionsMet (postRefund x m a d).1 := by
  unfold postRefund
  split
  · exact h
  · next j c hok =>
    split
    · exact h
    · split
      · exact h
      · exact conditions_creditChanges h j (h.card (usableCard_ok hok).1) m .f a

/-- A card written by a posting that does nothing else. -/
theorem conditions_writtenCard (j : Nat) {c : Card} (hc : CauseLatched c) : ConditionsMet (d.putCard j c).commit :=
  (h.putCard j hc).same rfl rfl rfl

theorem conditions_postCardLock (x : Nat) : ConditionsMet (postCardLock x d).1 := by
  unfold postCardLock
  split
  · exact h
  · next j c hcard =>
    have hc := h.card (cardOf_some hcard).1
    split
    · exact h
    · split
      · exact h
      · exact conditions_writtenCard h j hc

theorem conditions_postCardUnlock (x : Nat) : ConditionsMet (postCardUnlock x d).1 := by
  unfold postCardUnlock
  split
  · exact h
  · next j c hcard =>
    have hc := h.card (cardOf_some hcard).1
    split
    · exact h
    · split
      · exact h
      · exact conditions_writtenCard h j hc

theorem conditions_postClearCard (x : Nat) : ConditionsMet (postClearCard x d).1 := by
  unfold postClearCard
  split
  · exact h
  · simp only
    split
    · exact conditions_writtenCard h _ (causeLatched_of_unlocked rfl)
    · exact h

theorem conditions_postCardRetire (x : Nat) (reason : RetireReason) : ConditionsMet (postCardRetire x reason d).1 := by
  unfold postCardRetire
  split
  · exact h
  · split
    · exact h
    · split
      · exact ((h.finalise _ _ reason).evalFinalised reason).same rfl rfl rfl
      · exact conditions_writtenCard h _ (causeLatched_of_unlocked rfl)

theorem conditions_postCardPurge (x : Nat) : ConditionsMet (postCardPurge x d).1 := by
  unfold postCardPurge
  split
  · exact h
  · split
    · exact (h.purgeCard _).same rfl rfl rfl
    · exact h

theorem conditions_transferToNew (k : Nat) (source : Card) (target : Nat) (free : Option Nat) :
    ConditionsMet (transferToNew k source target free d).1 := by
  unfold transferToNew
  split
  · exact h
  · next j =>
    split
    · exact h
    · have hplaced := h.placeCard j (c := transferTarget target source d.now) (causeLatched_of_unlocked rfl)
      exact (hplaced.putCard k (c := retiredCard d.now .transferred source) (causeLatched_of_unlocked rfl)).same rfl rfl rfl

theorem conditions_transferToCard (k : Nat) (source : Card) (y : Nat) {target : Card} (ht : CauseLatched target) :
    ConditionsMet (transferToCard k source y target d).1 := by
  unfold transferToCard
  split
  · exact h
  · split
    · exact h
    · have hput := h.putCard y (c := { target with
        available := target.available + source.available, lastPostingAt := d.now }) ht
      exact (hput.putCard k (c := retiredCard d.now .transferred source) (causeLatched_of_unlocked rfl)).same rfl rfl rfl

theorem conditions_postCardTransfer (x y : Nat) : ConditionsMet (postCardTransfer x y d).1 := by
  unfold postCardTransfer
  split
  · exact h
  · split
    · exact h
    · split
      · exact h
      · split
        · exact h
        · split
          · next j t htarget => exact conditions_transferToCard h _ _ j (h.card (cardOf_some htarget).1)
          · exact conditions_transferToNew h _ _ _ _

theorem conditions_postRedeem (x m a : Nat) : ConditionsMet (postRedeem x m a d).1 := by
  unfold postRedeem
  split
  · exact h
  · next j c hok =>
    have hc := h.card (spendChecks_ok hok).1
    split
    · exact h
    · next y _ =>
      have hput := h.putCard j (c := redeemedCard d c y) (causeLatched_spendCard _ _ hc)
      have htaken : ConditionsMet (((d.spendEvents c).putCard j (redeemedCard d c y)).takeValue m y) :=
        hput.same rfl rfl rfl
      exact (htaken.evalMerchant m).same rfl rfl rfl

theorem conditions_postHoldPlace (x m a l : Nat) : ConditionsMet (postHoldPlace x m a l d).1 := by
  unfold postHoldPlace
  split
  · exact h
  · next j c hok =>
    have hc := h.card (spendChecks_ok hok).1
    split
    · exact h
    · split
      · exact h
      · split
        · exact h
        · next y _ =>
          have hadded := h.addHold (placedHold d j m y l)
          have hput := hadded.putCard j (c := holdingCard d c y) (causeLatched_spendCard _ _ hc)
          exact hput.same rfl rfl rfl

end CardPostings

/-! The end of a hold -/

section HoldPostings

variable {d : Draft} (h : ConditionsMet d)
include h

theorem conditions_releaseChanges (g : Hold) {c : Card} (hc : CauseLatched c) :
    ConditionsMet (releaseChanges d g c) :=
  (((h.removeHold g).settleCard g.slot (c := endedCard d.now c g g.amount 0) hc).evalSettled _).same rfl rfl rfl

theorem conditions_completeChanges (g : Hold) {c : Card} (hc : CauseLatched c) (x back drawn : Nat) :
    ConditionsMet (completeChanges d g c x back drawn) := by
  have htaken : ConditionsMet ((d.removeHold g).takeValue g.merchant x) := (h.removeHold g).same rfl rfl rfl
  have hsettled := htaken.settleCard g.slot (c := endedCard d.now c g back drawn) hc
  exact ((hsettled.evalMerchant g.merchant).evalSettled _).same rfl rfl rfl

theorem conditions_completeHold (g : Hold) {c : Card} (hc : CauseLatched c) (amount : Nat) :
    ConditionsMet (completeHold d g c amount).1 := by
  unfold completeHold
  split
  · exact (conditions_releaseChanges h g hc).same rfl rfl rfl
  · split
    · exact h
    · split
      · exact conditions_completeChanges h g hc _ _ _
      · unfold completeOver
        split
        · exact conditions_completeChanges h g hc _ _ _
        · split
          · exact conditions_completeChanges h g hc _ _ _
          · exact h

theorem conditions_postHoldComplete (id m a : Nat) : ConditionsMet (postHoldComplete id m a d).1 := by
  unfold postHoldComplete
  split
  · exact h
  · split
    · exact h
    · split
      · exact h
      · next c hc => exact conditions_completeHold h _ (h.card hc) a

theorem conditions_postHoldVoid (id m : Nat) : ConditionsMet (postHoldVoid id m d).1 := by
  unfold postHoldVoid
  split
  · exact h
  · next g _ =>
    split
    · exact h
    · split
      · exact h
      · next c hc =>
        have hreleased := conditions_releaseChanges h g (h.card hc)
        split
        · exact hreleased.same rfl rfl rfl
        · exact hreleased

theorem conditions_postExpiry (id : Nat) : ConditionsMet (postExpiry id d) := by
  unfold postExpiry
  split
  · exact h
  · next g _ =>
    split
    · exact h
    · next c hc => exact (conditions_releaseChanges h g (h.card hc)).same rfl rfl rfl

end HoldPostings

/-! Merchants and clears -/

/-- A clear lifts a block with its condition (R161). -/
theorem blocksLatched_cleared {x : Merchant} (hx : BlocksLatched x) (refund deficit : Bool) :
    BlocksLatched (clearedMerchant refund deficit x) := by
  obtain ⟨hrefunds, hsales⟩ := hx
  refine ⟨fun hb => ?_, fun hb => ?_⟩
  · obtain ⟨hblocked, hkept⟩ := Bool.and_eq_true_iff.1 hb
    simpa [clearedMerchant, hrefunds hblocked] using hkept
  · obtain ⟨hblocked, hkept⟩ := Bool.and_eq_true_iff.1 hb
    simpa [clearedMerchant, hsales hblocked] using hkept

theorem conditions_clearMerchant {dt : Draft × Tally} (hd : ConditionsMet dt.1) (m : Nat) :
    ConditionsMet (clearMerchant dt m).1 :=
  hd.rewriteMerchant (blocksLatched_cleared (hd.merchant m) _ _) fun hl => (Bool.and_eq_true_iff.1 hl).1

theorem conditions_foldl_clear (l : List Nat) {dt : Draft × Tally} (hd : ConditionsMet dt.1) :
    ConditionsMet (l.foldl clearMerchant dt).1 := by
  induction l generalizing dt with
  | nil => exact hd
  | cons m rest ih => exact ih (conditions_clearMerchant hd m)

section MerchantPostings

variable {d : Draft} (h : ConditionsMet d)
include h

/-- A merchant's record written by its own request, with flags and blocks as they were. -/
theorem conditions_movedMerchant (m : Nat) (st : MerchantState) (settings : Settings) (withdrawn : Option Nat) :
    ConditionsMet (d.putMerchant m { merchantOf d.records m with
      state := st, settings := settings, withdrawnIn := withdrawn }).commit :=
  (h.rewriteMerchant (m := m) (x := { merchantOf d.records m with
    state := st, settings := settings, withdrawnIn := withdrawn }) (h.merchant m) id).same rfl rfl rfl

theorem conditions_postMerchantEnrol (m : Nat) (st : Settings) : ConditionsMet (postMerchantEnrol m st d).1 := by
  unfold postMerchantEnrol
  simp only
  split
  · exact conditions_movedMerchant h m _ _ _
  · exact h
  · exact h
  · exact h

theorem conditions_postMerchantUpdate (m : Nat) (st : Settings) : ConditionsMet (postMerchantUpdate m st d).1 := by
  unfold postMerchantUpdate
  split
  · exact h
  · exact h
  · exact conditions_movedMerchant h m _ _ _
  · exact conditions_movedMerchant h m _ _ _

theorem conditions_postMerchantSuspend (m : Nat) : ConditionsMet (postMerchantSuspend m d).1 := by
  unfold postMerchantSuspend
  split
  · exact conditions_movedMerchant h m _ _ _
  · exact h
  · exact h
  · exact h

theorem conditions_postMerchantResume (m : Nat) : ConditionsMet (postMerchantResume m d).1 := by
  unfold postMerchantResume
  split
  · exact conditions_movedMerchant h m _ _ _
  · exact h
  · exact h
  · exact h

theorem conditions_withdrawTrading (m : Nat) : ConditionsMet (withdrawTrading m d).1 := by
  unfold withdrawTrading
  simp only
  split
  · exact h
  · exact conditions_movedMerchant h m _ _ _

theorem conditions_postMerchantWithdraw (m : Nat) : ConditionsMet (postMerchantWithdraw m d).1 := by
  unfold postMerchantWithdraw
  split
  · exact conditions_withdrawTrading h m
  · exact conditions_withdrawTrading h m
  · exact h
  · exact h

theorem conditions_clearEnd {dt : Draft × Tally} (hd : ConditionsMet dt.1) : ConditionsMet (clearEnd d dt).1 := by
  unfold clearEnd
  simp only
  split
  · exact h
  · exact hd.same rfl rfl rfl

theorem conditions_postClearMerchant (m : Nat) : ConditionsMet (postClearMerchant m d).1 :=
  conditions_clearEnd h (conditions_clearMerchant (dt := (d, _)) h m)

theorem conditions_postClearAllMerchants : ConditionsMet (postClearAllMerchants d).1 :=
  conditions_clearEnd h (conditions_foldl_clear _ (dt := (d, _)) h)

theorem conditions_postLatch (m : Nat) : ConditionsMet (postLatch m d) := by
  have herased := h.eraseQual m
  unfold postLatch
  simp only
  split
  · exact (herased.latchRefund (m := m) fun k hk => ((mem_eraseQual _ _ _).1 hk).2).same rfl rfl rfl
  · exact herased

end MerchantPostings

/-! Limits and periods -/

section PeriodPostings

variable {d : Draft} (h : ConditionsMet d)
include h

theorem conditions_postLimitsValue (l : ValueLimits) : ConditionsMet (postLimitsValue l d).1 := by
  unfold postLimitsValue
  split
  · exact h.same rfl rfl rfl
  · exact h

theorem conditions_postLimitsMonitor (l : MonitorLimits) : ConditionsMet (postLimitsMonitor l d).1 := by
  unfold postLimitsMonitor
  split
  · simp only [evalWatermarks_spec]
    exact h.same rfl rfl rfl
  · exact h

theorem conditions_postLimitsDevice (l : DeviceLimits) : ConditionsMet (postLimitsDevice l d).1 := by
  unfold postLimitsDevice
  split
  · exact h.same rfl rfl rfl
  · exact h

theorem conditions_postScheduleStage (sel : Select) (sc : Schedule) : ConditionsMet (postScheduleStage sel sc d).1 := by
  unfold postScheduleStage
  split
  · cases sel with
    | a => exact h.same rfl rfl rfl
    | b => exact h.same rfl rfl rfl
  · exact h

theorem conditions_postPeriodClose : ConditionsMet (postPeriodClose d).1 := by
  unfold postPeriodClose
  simp only
  split
  · exact h.emptied rfl rfl rfl
  · exact h

theorem conditions_postAlarmCutover : ConditionsMet (postAlarmCutover d) := by
  unfold postAlarmCutover
  split
  · exact h.emptied rfl rfl rfl
  · exact h.same rfl rfl rfl

theorem conditions_postStatementStep (m : Nat) : ConditionsMet (postStatementStep m d) := by
  have hready : ConditionsMet (d.readyEvent m) := by
    rw [readyEvent_eq]
    exact h.same rfl rfl rfl
  unfold postStatementStep
  simp only
  split
  · exact hready.same rfl rfl rfl
  · next sel _ =>
    have hstated : ∀ st, ConditionsMet (((d.readyEvent m).mapRecords fun r =>
        { r with closingBank := statementBank r.closingBank m st }).putEntry m
        { openEntry d.records m with dIn := st.dOut }) := fun st => hready.same rfl rfl rfl
    exact (hstated _).evalDeficit m

/-- A merchant returned to UNENROLLED has nothing latched, nothing blocked and no place on the list (R112). -/
theorem conditions_returnMerchant (m : Nat) : ConditionsMet (d.returnMerchant m) := by
  have hput := h.putMerchant (m := m)
    (x := { unenrolledMerchant with openHolds := (merchantOf d.records m).openHolds })
    (blocksLatched_unenrolled _) Bool.false_ne_true.elim
  exact (hput.eraseQual m).same rfl rfl rfl

theorem conditions_foldl_returnMerchant (l : List Nat) : ConditionsMet (l.foldl Draft.returnMerchant d) := by
  induction l generalizing d with
  | nil => exact h
  | cons m rest ih => exact ih (conditions_returnMerchant h m)

theorem conditions_deferredCutover : ConditionsMet d.deferredCutover := by
  unfold Draft.deferredCutover
  split
  · exact h.emptied rfl rfl rfl
  · exact h

theorem conditions_postStatementsRelease (q : Nat) : ConditionsMet (postStatementsRelease q d).1 := by
  unfold postStatementsRelease
  simp only
  split
  · exact h
  · exact h
  · exact h
  · split
    · exact h
    · have hfreed : ConditionsMet (d.mapRecords releaseBank) := h.same rfl rfl rfl
      exact (conditions_deferredCutover (conditions_foldl_returnMerchant hfreed _)).same rfl rfl rfl

end PeriodPostings

end Sys2Proof.Machine
end

section
/-! PROOFS. The conditions under every step: a grant keeps them by its posting, the end of a posting puts its change-set in
their place, and every other row leaves them or empties the Qualification List (R13, R157, R161, R169). -/

namespace Sys2Proof.Machine

/-- The conditions of the device, and of a posting in flight, stand as R157 and R161 give them. -/
structure ConditionsStand (s : State) : Prop where
  now : ConditionsMet (startDraft s)
  change : ∀ p, s.posting = some p → ConditionsMet p.change

theorem conditionsInv_iff (s : State) : conditionsInv s = true ↔ ConditionsStand s := by
  simp only [conditionsInv, Bool.and_eq_true, decide_eq_true_eq, Option.all_eq_true, ← conditionsMet_iff]
  exact ⟨fun h => ⟨(conditionsMet_iff _).2 h.1, h.2⟩, fun h => ⟨(conditionsMet_iff _).1 h.now, h.change⟩⟩

/-! Postings -/

/-- Every request of the Posting class keeps the conditions. -/
theorem request_keeps_conditions {i : Instr} (hq : isRequest i = true) (hr : isRead i = false) :
    ∃ body, (∀ s, exec i s = .next (grantLink (readsServed s) i body)) ∧
      ∀ d, ConditionsMet d → ConditionsMet (body d).1 := by
  cases i <;> simp only [isRequest, isRead, Bool.false_eq_true, reduceCtorEq] at hq hr
  case cardIssue => exact ⟨_, fun _ => rfl, fun _ h => conditions_postCardIssue h _ _ _ _⟩
  case cardReload => exact ⟨_, fun _ => rfl, fun _ h => conditions_postCardReload h _ _ _⟩
  case cardLock => exact ⟨_, fun _ => rfl, fun _ h => conditions_postCardLock h _⟩
  case cardUnlock => exact ⟨_, fun _ => rfl, fun _ h => conditions_postCardUnlock h _⟩
  case cardRetire => exact ⟨_, fun _ => rfl, fun _ h => conditions_postCardRetire h _ _⟩
  case cardTransfer => exact ⟨_, fun _ => rfl, fun _ h => conditions_postCardTransfer h _ _⟩
  case cardPurge => exact ⟨_, fun _ => rfl, fun _ h => conditions_postCardPurge h _⟩
  case redeem => exact ⟨_, fun _ => rfl, fun _ h => conditions_postRedeem h _ _ _⟩
  case holdPlace => exact ⟨_, fun _ => rfl, fun _ h => conditions_postHoldPlace h _ _ _ _⟩
  case holdComplete => exact ⟨_, fun _ => rfl, fun _ h => conditions_postHoldComplete h _ _ _⟩
  case holdVoid => exact ⟨_, fun _ => rfl, fun _ h => conditions_postHoldVoid h _ _⟩
  case refund => exact ⟨_, fun _ => rfl, fun _ h => conditions_postRefund h _ _ _⟩
  case merchantEnrol => exact ⟨_, fun _ => rfl, fun _ h => conditions_postMerchantEnrol h _ _⟩
  case merchantUpdate => exact ⟨_, fun _ => rfl, fun _ h => conditions_postMerchantUpdate h _ _⟩
  case merchantSuspend => exact ⟨_, fun _ => rfl, fun _ h => conditions_postMerchantSuspend h _⟩
  case merchantResume => exact ⟨_, fun _ => rfl, fun _ h => conditions_postMerchantResume h _⟩
  case merchantWithdraw => exact ⟨_, fun _ => rfl, fun _ h => conditions_postMerchantWithdraw h _⟩
  case scheduleStage => exact ⟨_, fun _ => rfl, fun _ h => conditions_postScheduleStage h _ _⟩
  case periodClose => exact ⟨_, fun _ => rfl, fun _ h => conditions_postPeriodClose h⟩
  case statementsRelease => exact ⟨_, fun _ => rfl, fun _ h => conditions_postStatementsRelease h _⟩
  case conditionsClearDevice => exact ⟨_, fun _ => rfl, fun _ h => h.same rfl rfl rfl⟩
  case conditionsClearMerchant => exact ⟨_, fun _ => rfl, fun _ h => conditions_postClearMerchant h _⟩
  case conditionsClearAllMerchants => exact ⟨_, fun _ => rfl, fun _ h => conditions_postClearAllMerchants h⟩
  case conditionsClearCard => exact ⟨_, fun _ => rfl, fun _ h => conditions_postClearCard h _⟩
  case limitsSetValue => exact ⟨_, fun _ => rfl, fun _ h => conditions_postLimitsValue h _⟩
  case limitsSetMonitor => exact ⟨_, fun _ => rfl, fun _ h => conditions_postLimitsMonitor h _⟩
  case limitsSetDevice => exact ⟨_, fun _ => rfl, fun _ h => conditions_postLimitsDevice h _⟩

section Grants

variable {s : State} (hs : ConditionsStand s)
include hs

theorem grantLink_conditions (i : Instr) {body : Draft → Draft × Answer}
    (hbody : ∀ d, ConditionsMet d → ConditionsMet (body d).1) : ConditionsStand (grantLink s i body) := by
  rcases grantLink_cases s i body with h | ⟨q, -, -, -, h⟩ <;> rw [h]
  · exact hs
  · refine ⟨hs.now, fun p hp => ?_⟩
    obtain rfl := Option.some.inj hp
    exact hbody _ hs.now

theorem grantInternal_conditions (k : Kind) (item : Item) {body : Draft → Draft}
    (hbody : ∀ {d}, ConditionsMet d → ConditionsMet (body d)) : ConditionsStand (grantInternal s k item body) := by
  rcases grantInternal_cases s k item body with h | ⟨-, -, h⟩ <;> rw [h]
  · exact hs
  · refine ⟨hs.now, fun p hp => ?_⟩
    obtain rfl := Option.some.inj hp
    exact hbody hs.now

theorem expiryGrant_conditions : ConditionsStand (expiryGrant s) := by
  unfold expiryGrant
  split
  · exact hs
  · exact grantInternal_conditions hs _ _ fun h => conditions_postExpiry h _

theorem stepGrant_conditions : ConditionsStand (stepGrant s) := by
  unfold stepGrant
  split
  · exact hs
  · exact grantInternal_conditions hs _ _ fun h => conditions_postStatementStep h _

theorem latchGrant_conditions : ConditionsStand (latchGrant s) := by
  unfold latchGrant
  split
  · exact hs
  · exact grantInternal_conditions hs _ _ fun h => conditions_postLatch h _

end Grants

/-! Rows that grant no posting -/

/-- The records stand, with those of a posting in flight unless it is dropped, and the list stands or is emptied. -/
structure ListKept (s t : State) : Prop where
  kept : RecordsKept s t
  qual : t.qual = s.qual ∨ t.qual = []

theorem ListKept.conditions {s t : State} (h : ListKept s t) (hs : ConditionsStand s) : ConditionsStand t where
  now := by
    have hm : (startDraft t).records.merchants = (startDraft s).records.merchants := congrArg _ h.kept.records
    have hc : (startDraft t).records.cards = (startDraft s).records.cards := congrArg _ h.kept.records
    rcases h.qual with hq | hq
    · exact hs.now.same hm hc hq
    · exact hs.now.emptied hm hc hq
  change := fun p hp => by
    obtain ⟨p', hp', hchange⟩ := h.kept.posting p hp
    exact hchange ▸ hs.change p' hp'

theorem Settled.listKept {s t : State} (h : Settled s t) : ListKept s t := ⟨h.recordsKept, .inl h.qual⟩

theorem selFall_qual (s : State) : (selFall s).qual = s.qual := by
  unfold selFall
  split
  · rfl
  · split
    · rfl
    · rfl

theorem answerBlocked_qual (s : State) (q : Slot) : (answerBlocked s q).qual = s.qual := by
  unfold answerBlocked
  split
  · rfl
  · split
    · rfl
    · rfl

theorem accept_qual (s : State) (code tag : Byte) (ps : List Byte) : (accept s code tag ps).qual = s.qual := by
  unfold accept
  split
  · rfl
  · rfl
  · rfl
  · unfold goOn
    simp only
    split
    · rfl
    · exact answerBlocked_qual _ _

theorem deliver_qual (s : State) (sdi : List Bool) : (deliver s sdi).qual = s.qual := by
  unfold deliver
  split
  · rfl
  · split
    · rfl
    · rfl

theorem judgeFrame_qual (s : State) (sdi : List Bool) : (judgeFrame s sdi).qual = s.qual := by
  unfold judgeFrame
  split
  · rfl
  · split
    · split
      · rfl
      · split
        · exact accept_qual _ _ _ _
        · rfl
    · rfl

theorem selRise_qual (sdi : List Bool) (s : State) : (selRise sdi s).qual = s.qual := by
  unfold selRise
  split
  · simp only
    split
    · exact (judgeFrame_qual _ _).trans (deliver_qual _ _)
    · rfl
  · rfl

theorem tickClock_qual (s : State) : (tickClock s).qual = s.qual := by
  unfold tickClock
  split
  · exact ((alarmTest_settled _ _ _).trans (expiryTest_settled _)).qual
  · rfl

theorem evaluations_qual (s : State) : (evalTables (firstEvaluation s)).qual = s.qual := by
  have hfirst : (evalTables (firstEvaluation s)).qual = (firstEvaluation s).qual := rfl
  rw [hfirst, firstEvaluation]
  split
  · rfl
  · rfl

theorem resetRelease_qual (s : State) : (resetRelease s).qual = s.qual := by
  unfold resetRelease
  split
  · simp only
    split
    · rw [(expiryTest_settled _).qual, evaluations_qual, raiseHeld_eq]
    · rfl
  · rfl

/-- A power-up leaves the list empty (R157). -/
theorem powerOn_qual (s : State) : (powerOn s).qual = s.qual ∨ (powerOn s).qual = [] := by
  unfold powerOn
  split
  · simp only
    split
    · exact .inr rfl
    · exact .inr (evaluations_qual _)
  · exact .inl rfl

theorem supplyFall_qual (s : State) : (supplyFall s).qual = s.qual := by
  unfold supplyFall
  split
  · rfl
  · rfl

theorem supplyRise_qual (s : State) : (supplyRise s).qual = s.qual := by
  unfold supplyRise
  split
  · unfold enterNormal
    simp only
    split
    · rfl
    · rfl
  · rfl

theorem guardRunsOut_qual (s : State) : (guardRunsOut s).qual = s.qual := by
  unfold guardRunsOut
  split
  · exact (answerParked_settled _).qual
  · rfl

/-- The floor that the end of a posting may write is in no merchant's and no card's record (R80, R160). -/
theorem endedRecords_tables (s : State) (p : Posting) : (endedRecords s p).merchants = p.change.records.merchants ∧
    (endedRecords s p).cards = p.change.records.cards := by
  cases hf : p.change.finish with
  | plain => rw [endedRecords_plain hf]; exact ⟨rfl, rfl⟩
  | supplyLevels => rw [endedRecords_levels hf]; exact ⟨rfl, rfl⟩
  | clearSupplyLow c n => rw [endedRecords_clear hf]; exact ⟨rfl, rfl⟩

section Rows

variable {s : State} (hs : ConditionsStand s)
include hs

/-- The end of a posting leaves the conditions of its change-set (R80). -/
theorem endPosting_conditions : ConditionsStand (endPosting s) := by
  cases hp : s.posting with
  | none => rwa [endPosting_idle hp]
  | some p =>
    obtain ⟨hmerchants, hcards⟩ := endedRecords_tables s p
    have ended : ConditionsStand (finishState (applyChange s p) p) := by
      rw [finishState_applyChange]
      exact ⟨(hs.change p hp).same hmerchants hcards rfl, fun p' hp' => by cases hp'⟩
    exact (endPosting_settled hp).listKept.conditions ended

theorem resetFall_conditions : ConditionsStand (resetFall s) := by
  unfold resetFall
  split
  · exact hs
  · split
    · exact ListKept.conditions (s := endPosting s) ⟨.of_dropped rfl rfl, .inr rfl⟩ (endPosting_conditions hs)
    · exact ⟨hs.now, hs.change⟩

theorem stopDevice_conditions : ConditionsStand (stopDevice s) := by
  unfold stopDevice
  split
  · exact ListKept.conditions (s := endPosting s) ⟨.of_dropped rfl rfl, .inr rfl⟩ (endPosting_conditions hs)
  · exact hs

/-- Every row keeps the conditions: a grant by its posting, any other by what it does to the records and the list. -/
theorem exec_keeps_conditions {i : Instr} {t : State} (h : exec i s = .next t) : ConditionsStand t := by
  have served : ConditionsStand (readsServed s) := (readsServed_settled s).listKept.conditions hs
  have measured : ∀ r, ConditionsStand (measure (readsServed s) r) := fun r => ⟨served.now, served.change⟩
  by_cases hread : isRead i = true
  · exact (exec_read_settled hread h).listKept.conditions hs
  rw [Bool.not_eq_true] at hread
  by_cases hreq : isRequest i = true
  · obtain ⟨body, hrow, hbody⟩ := request_keeps_conditions hreq hread
    obtain rfl := Host.Outcome.next.inj ((hrow s).symm.trans h)
    exact grantLink_conditions served i hbody
  cases i <;> first
    | exact absurd rfl hreq
    | obtain rfl := Host.Outcome.next.inj h
  case nselFall => exact ListKept.conditions ⟨(selFall_beside _).recordsKept, .inl (selFall_qual _)⟩ served
  case nselRise sdi => exact ListKept.conditions ⟨(selRise_beside sdi _).recordsKept, .inl (selRise_qual sdi _)⟩ served
  case tick => exact ListKept.conditions ⟨tickClock_recordsKept _, .inl (tickClock_qual _)⟩ served
  case expiryPosting => exact expiryGrant_conditions served
  case alarmCutover => exact grantInternal_conditions served _ _ conditions_postAlarmCutover
  case statementStep => exact stepGrant_conditions served
  case latchPosting => exact latchGrant_conditions served
  case nresetFall => exact resetFall_conditions served
  case nresetRelease r =>
    exact ListKept.conditions ⟨resetRelease_recordsKept _, .inl (resetRelease_qual _)⟩ (measured r)
  case powerUp r charged =>
    have charge : ConditionsStand { measure (readsServed s) r with vhold := charged } := ⟨served.now, served.change⟩
    exact ListKept.conditions ⟨powerOn_recordsKept _, powerOn_qual _⟩ charge
  case supplyStop r => exact stopDevice_conditions (measured r)
  case supplyBelowWarning r =>
    exact ListKept.conditions ⟨(supplyFall_beside _).recordsKept, .inl (supplyFall_qual _)⟩ (measured r)
  case supplyAboveRecovery r =>
    exact ListKept.conditions ⟨(supplyRise_beside _).recordsKept, .inl (supplyRise_qual _)⟩ (measured r)
  case guardTimerRunsOut r =>
    exact ListKept.conditions ⟨guardRunsOut_recordsKept _, .inl (guardRunsOut_qual _)⟩ (measured r)
  case postingEnd r => exact endPosting_conditions (measured r)

end Rows

/-- Settles O57: every posting leaves conditions that stand, and outside postings the list stands or is emptied. -/
theorem stepKeepsTheConditions : Obligations.StepKeepsTheConditions := by
  unfold Obligations.StepKeepsTheConditions
  intro s t hs h
  rw [conditionsInv_iff] at hs ⊢
  unfold step at h
  split at h
  · obtain rfl := Host.Outcome.next.inj h
    exact hs
  · next c rest _ =>
    have queued : ConditionsStand { s with pending := rest } := ⟨hs.now, hs.change⟩
    exact exec_keeps_conditions queued h

end Sys2Proof.Machine
end

section
/-! PROOFS. The attention line and the supply state (R154, R166, R168, R170, R171, R172, R175). -/

namespace Sys2Proof.Machine

/-! The attention line -/

/-- In a rising table some listed record passes a test that an unlisted number fails exactly when some number does. -/
theorem any_listed_iff {α : Type} {dflt : α} {t : Table α} (hr : rising t = true) {p : α → Bool} (hd : p dflt = false) :
    t.any (fun e => p e.2) = true ↔ ∃ k, p (tableGet dflt t k) = true := by
  have hall := forall_listed_iff (dflt := dflt) hr (p := fun _ x => p x = false) (fun _ => hd)
  rw [List.any_eq_true, ← not_iff_not]
  simpa only [not_exists, not_and, Bool.not_eq_true, Prod.forall] using hall

/-- Some merchant has a condition latched whose class has report on. -/
theorem merchantReported_iff {r : Records} (hr : rising r.merchants = true) (report : BitVec 6) :
    r.merchants.any (fun e => (e.2.refundLatched && inSet report .refundRatio) ||
      (e.2.deficitLatched && inSet report .deficit)) = true ↔
    (∃ m, (merchantOf r m).refundLatched = true ∧ inSet report .refundRatio = true) ∨
      ∃ m, (merchantOf r m).deficitLatched = true ∧ inSet report .deficit = true := by
  rw [any_listed_iff (dflt := unenrolledMerchant) hr
    (p := fun x => (x.refundLatched && inSet report .refundRatio) || (x.deficitLatched && inSet report .deficit)) rfl]
  simp only [Bool.or_eq_true, Bool.and_eq_true]
  exact exists_or

/-- Some card has VELOCITY latched, with report on. -/
theorem cardReported_iff {t : Table Card} (hr : rising t = true) (report : BitVec 6) :
    t.any (fun e => e.2.velocityLatched && inSet report .velocity) = true ↔
    ∃ j c, tableFind t j = some c ∧ c.velocityLatched = true ∧ inSet report .velocity = true := by
  simp only [List.any_eq_true, Prod.exists, tableFind_eq_some_iff hr, Bool.and_eq_true]

/-- Settles O8: the latched conditions are sought in the tables, where every merchant and card that has one is listed. -/
theorem attentionLine : Obligations.AttentionLine := by
  unfold Obligations.AttentionLine
  intro s hpow hmerchants hcards report
  rw [nattnLow, if_pos hpow, latchedReported]
  simp only [Bool.or_eq_true, merchantReported_iff hmerchants, cardReported_iff hcards, decide_eq_true_iff,
    Bool.and_eq_true, or_assoc]
  rfl

/-! The supply state -/

theorem latchBit_false (f : DevFlag) : latchBit f false = 0x00#8 := rfl

/-- CONDITION_LATCHED is raised by a live class that was not latched (R155). -/
theorem latchBit_true (f : DevFlag) : latchBit f true = if f.latched then 0x00#8 else 0x40#8 := by
  unfold latchBit newlyLatched
  cases f.latched with
  | false => rfl
  | true => rfl

theorem enterLow_eq (s : State) : enterLow s = { s with
    supply := some .low
    guard := some { startedAt := s.reading.ms, span := s.records.limits.device.guardTime }
    supplyLow := { live := true, latched := true }
    events := s.events ||| (if s.supplyLow.latched then 0x00#8 else 0x40#8) ||| 0x80#8 } := by
  rw [← latchBit_true]
  simp only [enterLow, evalSupplyLow, evalFlag, State.raise, eventBit, Bool.or_true]

theorem enterNormal_eq (s : State) : enterNormal s = { s with
    supply := some .normal
    guard := none
    supplyLow := { live := false, latched := s.supplyLow.latched }
    events := s.events ||| (if s.supply = some .parked then 0x01#8 else 0x00#8) } := by
  simp only [enterNormal, evalSupplyLow, evalFlag, State.raise, eventBit, Bool.or_false, latchBit_false, BitVec.or_zero]
  split
  · rfl
  · rw [BitVec.or_zero]

section Rows

variable {s : State}

theorem supplyFall_low (hrun : running s = true) (hnormal : s.supply = some .normal) (hlow : s.reading.vdd < warningLevel s) :
    supplyFall s = enterLow s :=
  if_pos (by simp [hrun, hnormal, belowWarning, hlow])

theorem supplyFall_stands (h : s.supply ≠ some .normal ∨ warningLevel s ≤ s.reading.vdd) : supplyFall s = s := by
  refine if_neg fun hfalls => ?_
  simp only [belowWarning, Bool.and_eq_true, decide_eq_true_eq] at hfalls
  obtain ⟨⟨-, hnormal⟩, hlow⟩ := hfalls
  exact h.elim (fun h => h hnormal) (Nat.not_le_of_lt hlow)

theorem supplyRise_normal (hrun : running s = true) (hlow : s.supply = some .low ∨ s.supply = some .parked)
    (hhigh : recoveryLevel s < s.reading.vdd) : supplyRise s = enterNormal s :=
  if_pos (by simp only [hrun, hlow, aboveRecovery, hhigh, decide_true, Bool.and_self])

theorem supplyRise_stands (h : s.supply = some .normal ∨ s.reading.vdd ≤ recoveryLevel s) : supplyRise s = s := by
  refine if_neg fun hrises => ?_
  simp only [aboveRecovery, Bool.and_eq_true, decide_eq_true_eq] at hrises
  obtain ⟨⟨-, hlow⟩, hhigh⟩ := hrises
  rcases h with h | h
  · simp [h] at hlow
  · exact Nat.not_le_of_lt hhigh h

end Rows

/-- Settles O11: each row moves the supply state only across its own level. -/
theorem supplyMovesBetweenNormalAndLow : Obligations.SupplyMovesBetweenNormalAndLow := by
  unfold Obligations.SupplyMovesBetweenNormalAndLow
  intro s r hrun hwaits warning
  have hfall : exec (.supplyBelowWarning r) s = .next (supplyFall (measure s r)) :=
    congrArg (fun t => Host.Outcome.next (supplyFall (measure t r))) (readsServed_none hwaits)
  have hrise : exec (.supplyAboveRecovery r) s = .next (supplyRise (measure s r)) :=
    congrArg (fun t => Host.Outcome.next (supplyRise (measure t r))) (readsServed_none hwaits)
  have hrun' : running (measure s r) = true := hrun
  rw [hfall, hrise]
  refine ⟨fun hnormal hlow => ?_, fun h => ?_, fun hlow hhigh => ?_, fun h => ?_⟩
  · rw [supplyFall_low hrun' hnormal hlow, enterLow_eq]
    rfl
  · rw [supplyFall_stands (s := measure s r) h]
    rfl
  · rw [supplyRise_normal hrun' hlow hhigh, enterNormal_eq]
    rfl
  · rw [supplyRise_stands (s := measure s r) h]
    rfl

end Sys2Proof.Machine
end

section
/-! PROOFS. The latch posting and the clears of latched conditions (R155, R158, R160, R161). -/

namespace Sys2Proof.Machine

/-! LATCH_POSTING -/

/-- REFUND_RATIO is live on an entry by its two comparisons (R150). -/
theorem refundLive_iff (l : MonitorLimits) (e : Entry) :
    refundLive l e = true ↔ (l.refundFloor : Int) ≤ e.f ∧ e.r * l.ratio < e.f * 65536 := by
  simp only [refundLive, Bool.and_eq_true, decide_eq_true_eq]

theorem exec_latchPosting_granted {s : State} {k : Qual} (hwaits : NoReadWaits s)
    (hturn : arbiterChoice s = some .settlement) (halarm : s.alarmPending = false) (hdue : latchDue s = some k) :
    exec .latchPosting s = .next (internalUnderWay s .settlement (.latch k.merchant) (some s.clock.value)
      (postLatch k.merchant (startDraft s))) := by
  have hrow : exec .latchPosting s = .next (latchGrant (readsServed s)) := rfl
  have hgrants : Grants s .settlement (.latch k.merchant) :=
    ⟨hturn, by simp [candidate, settlementCandidate, halarm, hdue]⟩
  rw [hrow, readsServed_none hwaits, latchGrant]
  simp only [hdue, grantInternal_granted hgrants]
  rfl

/-- A latch posting that finds REFUND_RATIO live and not latched (R155, R158). -/
theorem postLatch_latches {s : State} {m : Nat}
    (hlive : refundLive s.records.limits.monitor (openEntry s.records m) = true)
    (hlatched : (merchantOf s.records m).refundLatched = false) :
    postLatch m (startDraft s) = { startDraft s with
      records := merchantWritten s m { merchantOf s.records m with
        refundLatched := true
        refundsBlocked := (merchantOf s.records m).refundsBlocked ||
          inSet s.records.limits.device.operate .refundRatio }
      qual := eraseQual s.qual m
      events := 0x40#8 } := by
  simp only [postLatch, startDraft_records, hlive, hlatched, Bool.not_false, Bool.and_self, if_true]
  rw [← BitVec.zero_or (x := 0x40#8)]
  rfl

/-- A latch posting that finds nothing to latch takes the merchant off the list alone (R158). -/
theorem postLatch_takes {s : State} {m : Nat}
    (h : ¬ refundLive s.records.limits.monitor (openEntry s.records m) = true ∨
      (merchantOf s.records m).refundLatched = true) :
    postLatch m (startDraft s) = { startDraft s with qual := eraseQual s.qual m } := by
  simp only [postLatch, startDraft_records]
  refine if_neg fun hlatches => ?_
  obtain ⟨hlive, hlatched⟩ := Bool.and_eq_true_iff.1 hlatches
  rcases h with h | h
  · exact h hlive
  · rw [h] at hlatched; cases hlatched

/-- Settles O22: the due head is granted, and its posting latches exactly when REFUND_RATIO is live and not latched. -/
theorem latchPostingTakesTheDueHead : Obligations.LatchPostingTakesTheDueHead := by
  unfold Obligations.LatchPostingTakesTheDueHead
  intro s k rest hwaits hturn halarm hset hqual hdue x e l live kept
  have hhead : latchDue s = some k := (latchDue_eq_some_iff s k).2 ⟨by rw [hqual]; rfl, hset, hdue⟩
  have hlive : refundLive l.monitor e = true ↔ live := refundLive_iff _ _
  rw [exec_latchPosting_granted hwaits hturn halarm hhead]
  refine ⟨fun h hlatched => ?_, fun h => ?_⟩
  · rw [postLatch_latches (hlive.2 h) hlatched]
    rfl
  · rw [postLatch_takes (h.imp_left (mt hlive.1))]
    rfl

/-! Counts of a clear (R160) -/

theorem tallyOne_eq (t : Tally) (latched live : Bool) : tallyOne t latched live =
    { cleared := t.cleared + (latched && !live).toNat, remaining := t.remaining + (latched && live).toNat } := by
  unfold tallyOne
  cases latched with
  | false => rfl
  | true => cases live with
    | false => rfl
    | true => rfl

/-- REFUND_RATIO of a merchant is live on its open entry. -/
def ratioLive (r : Records) (m : Nat) : Bool := refundLive r.limits.monitor (openEntry r m)

/-- DEFICIT of a merchant is live on its open entry. -/
def shortLive (r : Records) (m : Nat) : Bool := deficitLive r.limits.monitor (openEntry r m)

/-- How many conditions of a merchant a clear clears. -/
def clearable (r : Records) (m : Nat) : Nat :=
  ((merchantOf r m).refundLatched && !ratioLive r m).toNat + ((merchantOf r m).deficitLatched && !shortLive r m).toNat

/-- How many conditions of a merchant a clear leaves latched. -/
def lasting (r : Records) (m : Nat) : Nat :=
  ((merchantOf r m).refundLatched && ratioLive r m).toNat + ((merchantOf r m).deficitLatched && shortLive r m).toNat

/-- The record of a merchant that a clear leaves. -/
def clearedOf (r : Records) (m : Nat) : Merchant := clearedMerchant (ratioLive r m) (shortLive r m) (merchantOf r m)

theorem clearMerchant_eq (d : Draft) (t : Tally) (m : Nat) : clearMerchant (d, t) m =
    (d.putMerchant m (clearedOf d.records m),
      { cleared := t.cleared + clearable d.records m, remaining := t.remaining + lasting d.records m }) := by
  simp only [clearMerchant, tallyOne_eq, Nat.add_assoc]
  rfl

/-! Scopes MERCHANT and CARD -/

theorem postClearMerchant_eq (m : Nat) (d : Draft) : postClearMerchant m d =
    (if clearable d.records m = 0 then d else (d.putMerchant m (clearedOf d.records m)).commit,
      answer .ok (field 2 (clearable d.records m) ++ field 2 (lasting d.records m))) := by
  simp only [postClearMerchant, clearMerchant_eq, clearEnd, tallyBody, Nat.zero_add]

/-- A clear lifts a block exactly with its condition (R161). -/
theorem clearedOf_eq (r : Records) (m : Nat) :
    let x := merchantOf r m
    let c1 := x.refundLatched && !ratioLive r m
    let c2 := x.deficitLatched && !shortLive r m
    clearedOf r m = { x with
      refundLatched := x.refundLatched && !c1, refundsBlocked := x.refundsBlocked && !c1,
      deficitLatched := x.deficitLatched && !c2, salesBlocked := x.salesBlocked && !c2 } := by
  have hkept : ∀ latched live : Bool, (latched && live) = (latched && !(latched && !live)) := by decide
  intro x c1 c2
  simp only [clearedOf, clearedMerchant]
  rw [hkept x.refundLatched, hkept x.deficitLatched]

theorem toNat_add_toNat_eq_zero_iff (a b : Bool) : a.toNat + b.toNat = 0 ↔ (a || b) = false := by
  cases a with
  | false => simp
  | true => simp

section Card

variable {s : State} {x j : Nat} {c : Card} (hc : cardOf s.records x = some (j, c))
include hc

theorem postClearCard_clears (hlatched : c.velocityLatched = true)
    (hlive : velocityLive s.records.limits.monitor s.clock.value c = false) :
    postClearCard x (startDraft s) =
      (changed s (cardWritten s j (clearedCard s.clock.value c)), answer .ok (field 2 1 ++ field 2 0)) := by
  simp only [postClearCard, startDraft_records, startDraft_now, hc, hlatched, hlive, tallyOne_eq, tallyBody]
  rfl

theorem postClearCard_leaves
    (h : c.velocityLatched = false ∨ velocityLive s.records.limits.monitor s.clock.value c = true) :
    postClearCard x (startDraft s) =
      (startDraft s, answer .ok (field 2 0 ++ field 2 (if c.velocityLatched then 1 else 0))) := by
  simp only [postClearCard, startDraft_records, startDraft_now, hc, tallyOne_eq, tallyBody]
  rcases h with h | h
  · simp [h]
  · cases hl : c.velocityLatched <;> simp [h]

end Card

/-- A LOCKED card with VELOCITY as its sole cause becomes ACTIVE (R38, R161). -/
theorem unlockedState_eq (c : Card) : unlockedState c =
    if c.state = .locked ∧ c.locks.host = false ∧ c.locks.velocity = true then .active else c.state := by
  unfold unlockedState
  cases c.state with
  | locked => cases c.locks.host <;> cases c.locks.velocity <;> rfl
  | active => rfl
  | closing => rfl
  | retired => rfl

/-! Scope ALL_MERCHANTS -/

/-- A clear of several merchants writes merchants, and nothing else. -/
theorem foldl_clearMerchant_beside (l : List Nat) (d : Draft) (t : Tally) :
    let d' := (l.foldl clearMerchant (d, t)).1
    d' = { d with records := { d.records with merchants := d'.records.merchants } } := by
  induction l generalizing d t with
  | nil => rfl
  | cons m rest ih =>
    rw [List.foldl_cons, clearMerchant_eq]
    exact ih _ _

/-- What one merchant's clear leaves of another: its record, and what is live on its entry. -/
theorem clear_other (d : Draft) {m k : Nat} (hk : k ≠ m) (x : Merchant) :
    merchantOf (d.putMerchant m x).records k = merchantOf d.records k := by
  rw [Draft.putMerchant_records, merchantOf_put, if_neg hk]

/-- Each merchant of several is cleared once, on its own record and entry. -/
theorem merchantOf_foldl_clear {l : List Nat} (hl : l.Nodup) (d : Draft) (t : Tally) (k : Nat) :
    merchantOf (l.foldl clearMerchant (d, t)).1.records k =
      if k ∈ l then clearedOf d.records k else merchantOf d.records k := by
  induction l generalizing d t with
  | nil => rfl
  | cons m rest ih =>
    obtain ⟨hm, hrest⟩ := List.nodup_cons.1 hl
    rw [List.foldl_cons, clearMerchant_eq, ih hrest]
    by_cases hk : k = m
    · subst hk
      rw [if_neg hm, if_pos List.mem_cons_self, Draft.putMerchant_records, merchantOf_put, if_pos rfl]
    · have hother := clear_other d hk (clearedOf d.records m)
      have hcleared : clearedOf (d.putMerchant m (clearedOf d.records m)).records k = clearedOf d.records k :=
        congrArg (clearedMerchant (ratioLive d.records k) (shortLive d.records k)) hother
      simp only [List.mem_cons, hk, false_or, hcleared, hother]

theorem foldl_clearMerchant_tally {l : List Nat} (hl : l.Nodup) (d : Draft) (t : Tally) :
    (l.foldl clearMerchant (d, t)).2 =
      { cleared := t.cleared + (l.map (clearable d.records)).sum
        remaining := t.remaining + (l.map (lasting d.records)).sum } := by
  induction l generalizing d t with
  | nil => rfl
  | cons m rest ih =>
    obtain ⟨hm, hrest⟩ := List.nodup_cons.1 hl
    have hother : ∀ k ∈ rest,
        merchantOf (d.putMerchant m (clearedOf d.records m)).records k = merchantOf d.records k :=
      fun k hk => clear_other d (ne_of_mem_of_not_mem hk hm) _
    have hclearable : rest.map (clearable (d.putMerchant m (clearedOf d.records m)).records) =
        rest.map (clearable d.records) := List.map_congr_left fun k hk => by
      simp only [clearable, hother k hk]; rfl
    have hlasting : rest.map (lasting (d.putMerchant m (clearedOf d.records m)).records) =
        rest.map (lasting d.records) := List.map_congr_left fun k hk => by
      simp only [lasting, hother k hk]; rfl
    rw [List.foldl_cons, clearMerchant_eq, ih hrest, hclearable, hlasting]
    simp only [List.map_cons, List.sum_cons, Nat.add_assoc]

theorem rising_nodup {α : Type} {t : Table α} (hr : rising t = true) : (t.map Prod.fst).Nodup :=
  List.pairwise_map.2 (((rising_iff t).1 hr).imp Nat.ne_of_lt)

theorem postClearAllMerchants_eq {d : Draft} (hr : rising d.records.merchants = true) :
    let l := d.records.merchants.map Prod.fst
    postClearAllMerchants d =
      (if (l.map (clearable d.records)).sum = 0 then d
        else (l.foldl clearMerchant (d, { cleared := 0, remaining := 0 })).1.commit,
      answer .ok (field 2 (l.map (clearable d.records)).sum ++ field 2 (l.map (lasting d.records)).sum)) := by
  have hl := rising_nodup hr
  simp only [postClearAllMerchants, clearEnd, tallyBody, foldl_clearMerchant_tally hl, Nat.zero_add]

/-- A merchant that is not listed has nothing latched, so a clear of every listed merchant is one of every merchant. -/
theorem merchantOf_clearedAll {d : Draft} (hr : rising d.records.merchants = true) (t : Tally) (m : Nat) :
    merchantOf ((d.records.merchants.map Prod.fst).foldl clearMerchant (d, t)).1.records m = clearedOf d.records m := by
  have hl := rising_nodup hr
  rw [merchantOf_foldl_clear hl]
  split
  · rfl
  · next hm =>
    have hnone : tableFind d.records.merchants m = none := by
      by_contra hsome
      obtain ⟨x, hx⟩ := Option.ne_none_iff_exists'.1 hsome
      exact hm (List.mem_map_of_mem (mem_of_tableFind hx))
    have hx : merchantOf d.records m = unenrolledMerchant := by rw [merchantOf, tableGet, hnone]; rfl
    rw [clearedOf, hx]
    rfl

/-- A sum over the numbers of the listed merchants, read off their records. -/
theorem sum_listed {r : Records} (hr : rising r.merchants = true) {f : Nat → Nat} {g : Nat × Merchant → Nat}
    (h : ∀ e, merchantOf r e.1 = e.2 → f e.1 = g e) :
    ((r.merchants.map Prod.fst).map f).sum = (r.merchants.map g).sum := by
  rw [List.map_map]
  exact congrArg List.sum (List.map_congr_left fun e he => h e (merchantOf_listed hr he))

/-- Settles O46: a merchant's clear is judged on its own record and entry, alone or among all, and a card's by VELOCITY. -/
theorem clearsOfMerchantsAndCards : Obligations.ClearsOfMerchantsAndCards := by
  unfold Obligations.ClearsOfMerchantsAndCards
  refine ⟨fun s m q hg => ?merchant, fun s x q hg => ⟨fun hnone => ?lost, fun j c hc => ?card⟩, fun s q hg htables => ?all⟩
  case merchant =>
    intro x l e ratio deficit c1 c2 told
    have hcleared : clearable s.records m = 0 ↔ (c1 || c2) = false := toNat_add_toNat_eq_zero_iff c1 c2
    have hjudged := postClearMerchant_eq m (startDraft s)
    rw [startDraft_records] at hjudged
    cases hany : c1 || c2 with
    | true =>
      refine .inl ⟨rfl, exec_judged hg rfl (hjudged.trans ?_)⟩
      rw [if_neg (mt hcleared.1 (by rw [hany]; decide)), clearedOf_eq]
      rfl
    | false =>
      refine .inr ⟨rfl, exec_judged hg rfl (hjudged.trans ?_)⟩
      rw [if_pos (hcleared.2 hany)]
      rfl
  case lost =>
    refine exec_judged hg rfl ?_
    simp only [postClearCard, startDraft_records, hnone]
  case card =>
    intro l live
    refine ⟨fun hlatched hlive => ?_, fun h => exec_judged hg rfl (postClearCard_leaves hc h)⟩
    refine exec_judged hg rfl ((postClearCard_clears hc hlatched hlive).trans ?_)
    rw [clearedCard, unlockedState_eq]
  case all =>
    intro l e ratio deficit cleared remaining
    obtain ⟨-, -, hmerchants, -, -⟩ := (tablesCanonical_iff _).1 htables
    have hr := canonical_rising hmerchants
    have hcleared : ((s.records.merchants.map Prod.fst).map (clearable s.records)).sum = cleared :=
      sum_listed hr fun e he => by rw [clearable, he]; rfl
    have hremaining : ((s.records.merchants.map Prod.fst).map (lasting s.records)).sum = remaining :=
      sum_listed hr fun e he => by rw [lasting, he]; rfl
    have hjudged := postClearAllMerchants_eq (d := startDraft s) hr
    simp only [startDraft_records, hcleared, hremaining] at hjudged
    refine ⟨_, exec_judged hg rfl hjudged, fun hzero => if_pos hzero, fun hsome => ?_⟩
    rw [if_neg (Nat.ne_of_gt hsome)]
    refine ⟨?_, merchantOf_clearedAll (d := startDraft s) hr _⟩
    rw [foldl_clearMerchant_beside]
    rfl

end Sys2Proof.Machine
end

section
/-! PROOFS. CONDITIONS_CLEAR of scope DEVICE, from its grant to the end of its posting (R81, R160). -/

namespace Sys2Proof.Machine

/-- A DEVICE clear at its grant: DIRECTORY_HIGH and HOLDS_HIGH cleared unless they are live, with both counts kept for its
end (R160; entry 9). -/
def deviceClear (s : State) : Draft :=
  { startDraft s with
    dirHigh := clearedFlag s.dirHigh
    holdsHigh := clearedFlag s.holdsHigh
    finish := .clearSupplyLow
      ((s.dirHigh.latched && !s.dirHigh.live).toNat + (s.holdsHigh.latched && !s.holdsHigh.live).toNat)
      ((s.dirHigh.latched && s.dirHigh.live).toNat + (s.holdsHigh.latched && s.holdsHigh.live).toNat) }

theorem postClearDevice_eq (s : State) : (postClearDevice (startDraft s)).1 = deviceClear s := by
  simp only [postClearDevice, tallyOne_eq, Nat.zero_add]
  rfl

/-- The end of a DEVICE clear judges SUPPLY_LOW and moves, beside its change-set, the floor alone (R160; entry 9). -/
theorem finishState_clear {s : State} {p : Posting} {c n : Nat} (h : p.change.finish = .clearSupplyLow c n) :
    finishState (applyChange s p) p = { applyChange s p with
      supplyLow := clearedFlag s.supplyLow
      records := { p.change.records with totals := { p.change.records.totals with floor :=
        if (clearCounts s c n).1 = 0 then p.change.records.totals.floor else p.change.now } } } := by
  have htally : supplyTally (applyChange s p) c n = clearCounts s c n := supplyTally_eq _ c n
  simp only [finishState, h, endDeviceClear, htally]
  split
  · rfl
  · rfl

/-- No read waits where the one accepted slot holds a request of the Posting class (R86). -/
theorem noReadWaits_of_alone {s : State} {q : Slot} (hq : isReadSlot q = false) (hacc : s.port.accepted = [q]) :
    NoReadWaits s := by
  have hnone : s.port.accepted.find? (fun x => isReadSlot x && eligible s x) = none := by
    rw [hacc, List.find?_singleton, hq, Bool.false_and]
    rfl
  unfold NoReadWaits oldestRead
  rw [hnone, ite_self]

/-- The end of a link posting whose slot alone waits is its changes with the response in its slot, and the Expiry Unit's test
(R68, R80, R81). -/
theorem endPosting_of_alone {s : State} {p : Posting} {q : Slot} {a : Answer} (hp : s.posting = some p)
    (hitem : p.item = .slot q.place) (hacc : s.port.accepted = [q]) (hans : endedAnswer s p = some a) :
    endPosting s = expiryTest { finishState (applyChange s p) p with
      port := { s.port with accepted := [], delivery := s.port.delivery ++ [{ slot := q, answer := a }] } } := by
  have hport : (finishState (applyChange s p) p).port = s.port :=
    (congrArg State.port (finishState_applyChange s p) :)
  have hplaced : placed s p = { finishState (applyChange s p) p with
      port := { s.port with accepted := [], delivery := s.port.delivery ++ [{ slot := q, answer := a }] } } := by
    simp [placed, placeAnswer, answerSlot, hitem, hans, hport, hacc]
  rw [endPosting_eq hp, hplaced, settle_nil _ rfl]

/-- Settles O47: the grant keeps both counts for the end, which judges SUPPLY_LOW and answers the one slot that waits. -/
theorem clearOfDevice : Obligations.ClearOfDevice := by
  unfold Obligations.ClearOfDevice
  intro s q hg
  have hgrant : exec .conditionsClearDevice s = .next (underWay s q (deviceClear s) (postClearDevice (startDraft s)).2) :=
    exec_judged hg rfl (Prod.ext (postClearDevice_eq s) rfl)
  refine ⟨_, _, hgrant, rfl, fun r s' fired hp hacc => ?_⟩
  intro kept gone left cleared
  have hread : isReadSlot q = false := by
    obtain ⟨-, -, hrequest, -⟩ := hg
    simp only [isReadSlot, hrequest]
    rfl
  have hrow := exec_postingEnd (noReadWaits_of_alone hread hacc) r
  rw [endPosting_of_alone (s := measure s' r) hp rfl hacc rfl, expiryTest_eq, finishState_clear rfl] at hrow
  exact ⟨_, hrow, rfl, rfl, rfl, rfl, rfl, rfl, BitVec.or_zero, rfl, rfl, rfl, rfl, rfl⟩

end Sys2Proof.Machine
end

section
/-! PROOFS. Frames: how one begins, the bytes and bits it sends, and how one that takes no request ends (R181, R182, R184,
R185, R189 to R191). -/

namespace Sys2Proof.Machine

/-! Bytes and bits -/

/-- A byte is sent from its most significant bit (R181). -/
theorem byteBits_get (b : Byte) {n : Nat} (h : n < 8) : (byteBits b)[n]? = some (b.getLsbD (7 - n)) := by
  have hbits : byteBits b = (List.range 8).map (fun k => b.getLsbD (7 - k)) := rfl
  rw [hbits, List.getElem?_map, List.getElem?_range h]
  rfl

/-- The bytes go out one behind the other (R181). -/
theorem flatMap_byteBits_get (bytes : List Byte) (n : Nat) :
    (bytes.flatMap byteBits)[n]? = bytes[n / 8]?.map (fun b => b.getLsbD (7 - n % 8)) := by
  induction bytes generalizing n with
  | nil => rfl
  | cons b bytes ih =>
    have hlen : (byteBits b).length = 8 := rfl
    rw [List.flatMap_cons]
    rcases Nat.lt_or_ge n 8 with h | h
    · rw [List.getElem?_append_left (hlen ▸ h), byteBits_get b h, Nat.div_eq_of_lt h, Nat.mod_eq_of_lt h]
      rfl
    · obtain ⟨k, rfl⟩ := Nat.exists_eq_add_of_le h
      rw [List.getElem?_append_right (hlen ▸ h), hlen, Nat.add_sub_cancel_left, ih, Nat.add_div_left k (by decide),
        Nat.add_mod_left, List.getElem?_cons_succ]

/-- A word is sent high byte first (R181, R182). -/
theorem beBytes_word (c : BitVec 16) : beBytes 2 c.toNat = [c.extractLsb' 8 8, c.extractLsb' 0 8] := by
  simp only [beBytes, List.cons.injEq, and_true]
  constructor
  · apply BitVec.eq_of_toNat_eq
    simp [Nat.shiftRight_eq_div_pow]
  · apply BitVec.eq_of_toNat_eq
    simp

/-- Eight bits make a byte (R181). -/
theorem toBytes_of_eight {bits : List Bool} (h : 8 ≤ bits.length) : ∃ b, toBytes bits = b :: toBytes (bits.drop 8) := by
  obtain _ | ⟨b7, _ | ⟨b6, _ | ⟨b5, _ | ⟨b4, _ | ⟨b3, _ | ⟨b2, _ | ⟨b1, _ | ⟨b0, rest⟩⟩⟩⟩⟩⟩⟩⟩ := bits
  case cons.cons.cons.cons.cons.cons.cons.cons => exact ⟨_, rfl⟩
  all_goals simp at h

/-! The bytes of the frame in progress -/

/-- Bytes 0 to 29 of the frame in progress, which its CRC covers (R181, R182). -/
def coveredBytes (s : State) (status : Byte) : List Byte := status :: responseBytes (offeredResponse s)

theorem coveredBytes_length (s : State) (status : Byte) : (coveredBytes s status).length = 30 := by
  unfold coveredBytes responseBytes
  split
  · simp
  · simp [resultBytes]

theorem outboundFrame_eq {s : State} {status : Byte} (h : s.port.frame = some status) :
    outboundFrame s = some (coveredBytes s status ++
      [(crcBytes (coveredBytes s status)).extractLsb' 8 8, (crcBytes (coveredBytes s status)).extractLsb' 0 8]) := by
  simp only [outboundFrame, h, ← beBytes_word]
  rfl

/-- With no slot offered the frame carries zeros behind its status byte (R181). -/
theorem coveredBytes_none {s : State} (h : s.port.offered = none) (status : Byte) :
    coveredBytes s status = status :: List.replicate 29 0x00#8 := by
  simp only [coveredBytes, offeredResponse, h]
  rfl

/-- The head of the delivery order, offered, is the response sent (R181, R184). -/
theorem coveredBytes_offered {s : State} {a : Answered} (hhead : s.port.delivery.head? = some a)
    (hoffered : s.port.offered = some a.slot.place) (status : Byte) :
    coveredBytes s status = status :: a.slot.tag :: a.slot.code :: BitVec.ofNat 8 (resultCode a.answer.result) ::
      resultBytes a.slot.place a.answer.body := by
  obtain ⟨rest, hdelivery⟩ := List.head?_eq_some_iff.1 hhead
  have hsent : offeredResponse s = some a := by
    simp only [offeredResponse, hoffered, hdelivery]
    exact List.find?_cons_of_pos (by simp)
  simp only [coveredBytes, hsent]
  rfl

theorem resultBytes_get (place : Nat) (body : Body) {n : Nat} (h : n < 26) :
    (body[n]? = none → (resultBytes place body)[n]? = some 0x00#8) ∧
      ∀ b, body[n]? = some (some b) → (resultBytes place body)[n]? = some b := by
  have hget : (resultBytes place body)[n]? = some (match body[n]? with
      | none => 0#8
      | some (some b) => b
      | some none => Config.freeByte place n) := by
    rw [resultBytes, List.getElem?_map, List.getElem?_range h]
    rfl
  refine ⟨fun hnone => ?_, fun b hb => ?_⟩
  · rw [hget, hnone]
  · rw [hget, hb]

/-- SDO sends the bits of the 32 bytes in their order, and 0 behind them (R181). -/
theorem sdoBit_eq {s : State} {bytes : List Byte} (h : outboundFrame s = some bytes) (n : Nat) :
    sdoBit s n = some ((bytes[n / 8]?.map (fun b => b.getLsbD (7 - n % 8))).getD false) := by
  rw [sdoBit, h, Option.map_some, flatMap_byteBits_get]

/-! The beginning and the end of a frame -/

theorem exec_nselFall {s : State} (hsel : s.nSelLow = false) (hwaits : NoReadWaits s) :
    exec .nselFall s = .next (if running s = true then beginFrame { s with nSelLow := true }
      else { s with nSelLow := true }) := by
  have hrow : exec .nselFall s = .next (selFall (readsServed s)) := rfl
  rw [hrow, readsServed_none hwaits, selFall, if_neg (by simp [hsel])]

/-- A rise that ends no frame, because none began or the device does not run, moves the pin alone (R189). -/
theorem exec_nselRise_ignored {s : State} (sdi : List Bool) (hsel : s.nSelLow = true) (hwaits : NoReadWaits s)
    (h : running s = false ∨ s.port.frame = none) : exec (.nselRise sdi) s = .next { s with nSelLow := false } := by
  have hrow : exec (.nselRise sdi) s = .next (selRise sdi (readsServed s)) := rfl
  have hends : (running s && s.port.frame.isSome) = false := by rcases h with h | h <;> simp [h]
  rw [hrow, readsServed_none hwaits, selRise, if_pos hsel, hends]
  rfl

theorem exec_nselRise_ends {s : State} (sdi : List Bool) (hrun : running s = true) (hsel : s.nSelLow = true)
    (hframe : s.port.frame.isSome = true) (hwaits : NoReadWaits s) :
    exec (.nselRise sdi) s = .next (endFrame { s with nSelLow := false } sdi) := by
  have hrow : exec (.nselRise sdi) s = .next (selRise sdi (readsServed s)) := rfl
  rw [hrow, readsServed_none hwaits, selRise, if_pos hsel, hrun, hframe]
  rfl

/-- The state in which a frame of the right length is judged: its offered response is delivered (R185). -/
def wholeFrame (s : State) : State :=
  { s with nSelLow := false, port := { s.port with delivery := leftDelivery s } }

theorem endFrame_whole {s : State} {sdi : List Bool} (h : rightLength sdi = true) :
    endFrame { s with nSelLow := false } sdi = closeFrame (judgeFrame (wholeFrame s) sdi) :=
  congrArg (fun t => closeFrame (judgeFrame t sdi)) (deliver_whole h)

theorem endFrame_wrongLength {s : State} {sdi : List Bool} (h : rightLength sdi = false) :
    endFrame s sdi = closeFrame (judgeFrame s sdi) := by
  have hkept : deliver s sdi = s := by
    unfold deliver
    split
    · rfl
    · rw [h]; rfl
  rw [endFrame, hkept]

section Judgement

variable {s : State} {sdi : List Bool}

theorem judgeFrame_bad (h : rightLength sdi = false ∨ goodCrc sdi = false) : judgeFrame s sdi = setFrameFlags s true false :=
  if_pos (by rcases h with h | h <;> simp [h])

/-- A good frame carries a code and a tag at least (R181). -/
theorem toBytes_good (hlength : rightLength sdi = true) : ∃ code tag rest, toBytes sdi = code :: tag :: rest := by
  have hlen : sdi.length = 256 := of_decide_eq_true hlength
  obtain ⟨code, hcode⟩ := toBytes_of_eight (bits := sdi) (by omega)
  obtain ⟨tag, htag⟩ := toBytes_of_eight (bits := sdi.drop 8) (by rw [List.length_drop]; omega)
  exact ⟨code, tag, _, by rw [hcode, htag]⟩

theorem judgeFrame_nop (hlength : rightLength sdi = true) (hcrc : goodCrc sdi = true)
    (hcode : (toBytes sdi).head? = some 0x00#8) : judgeFrame s sdi = setFrameFlags s false false := by
  obtain ⟨code, tag, rest, hbytes⟩ := toBytes_good hlength
  rw [hbytes, List.head?_cons, Option.some.injEq] at hcode
  simp only [judgeFrame, hlength, hcrc, hbytes, hcode, Bool.and_self, Bool.not_true, Bool.false_eq_true, if_false, if_true]

theorem judgeFrame_full (hlength : rightLength sdi = true) (hcrc : goodCrc sdi = true)
    (hcode : (toBytes sdi).head? ≠ some 0x00#8) (hfull : hasFree s = false) :
    judgeFrame s sdi = setFrameFlags s false true := by
  obtain ⟨code, tag, rest, hbytes⟩ := toBytes_good hlength
  rw [hbytes, List.head?_cons, ne_eq, Option.some.injEq] at hcode
  simp only [judgeFrame, hlength, hcrc, hbytes, hcode, hfull, Bool.and_self, Bool.not_true, Bool.false_eq_true, if_false]

end Judgement

/-! What the frame sends -/

/-- The 32 bytes of the frame in progress and the bits SDO drives (R181, R182, R184, R190, R191). -/
theorem outboundFrame_sent {s : State} {status : Byte} (h : s.port.frame = some status) :
    ∃ bytes, outboundFrame s = some bytes ∧ bytes.length = 32 ∧ bytes[0]? = some status ∧
      (∀ n, n < 30 → bytes[n]? = (coveredBytes s status)[n]?) ∧
      bytes[30]? = some ((crcBytes (bytes.take 30)).extractLsb' 8 8) ∧
      bytes[31]? = some ((crcBytes (bytes.take 30)).extractLsb' 0 8) := by
  have hlen := coveredBytes_length s status
  refine ⟨_, outboundFrame_eq h, by simp [hlen], rfl, fun n hn => List.getElem?_append_left (hlen ▸ hn), ?_, ?_⟩
  · rw [List.take_left' hlen, List.getElem?_append_right hlen.le, hlen]
    rfl
  · rw [List.take_left' hlen, List.getElem?_append_right (by omega), hlen]
    rfl

/-- Settles O5: the bytes sent are the covered bytes and their CRC, and a frame that takes no request ends as it was
judged. -/
theorem framesBeginSendAndEnd : Obligations.FramesBeginSendAndEnd := by
  unfold Obligations.FramesBeginSendAndEnd
  refine ⟨fun s hsel hwaits => ?falls, fun s status hframe => ?sends, fun s => ?idle, rfl,
    fun s sdi hsel hwaits h => exec_nselRise_ignored sdi hsel hwaits h, fun s sdi hrun hsel hframe hwaits => ?ends⟩
  case falls =>
    rw [exec_nselFall hsel hwaits]
    refine ⟨fun hrun => ?_, fun hrun => ?_⟩
    · rw [if_pos hrun]
      rfl
    · rw [if_neg (by simp [hrun])]
  case sends =>
    obtain ⟨bytes, hout, hlen, hstatus, hcovered, hhigh, hlow⟩ := outboundFrame_sent hframe
    refine ⟨bytes, hout, hlen, hstatus, fun hnone n h1 hn => ?none, fun a hhead hoffered => ?offered, hhigh, hlow,
      fun n hn => ?bits, fun n hn => ?beyond, fun hrun hsel => by rw [sdoDriven, hrun, hsel]; rfl⟩
    case none =>
      obtain ⟨k, rfl⟩ := Nat.exists_eq_add_of_le' h1
      rw [hcovered _ hn, coveredBytes_none hnone, List.getElem?_cons_succ, List.getElem?_replicate, if_pos (by omega)]
    case offered =>
      have hsent := coveredBytes_offered hhead hoffered status
      refine ⟨by rw [hcovered 1 (by decide), hsent]; rfl, by rw [hcovered 2 (by decide), hsent]; rfl,
        by rw [hcovered 3 (by decide), hsent]; rfl, fun n hn => ?_⟩
      rw [hcovered (n + 4) (by omega), hsent]
      exact resultBytes_get a.slot.place a.answer.body hn
    case bits =>
      have hbyte : n / 8 < bytes.length := by omega
      rw [sdoBit_eq hout, List.getElem?_eq_getElem hbyte]
      rfl
    case beyond =>
      have hbyte : bytes.length ≤ n / 8 := by omega
      rw [sdoBit_eq hout, List.getElem?_eq_none hbyte]
      rfl
  case idle =>
    refine ⟨fun h => ?_, fun hframe => by simp only [outboundFrame, hframe]⟩
    rcases h with h | h | h
    · simp [sdoDriven, h]
    · simp [sdoDriven, running, h]
    · simp [sdoDriven, running, h]
  case ends =>
    intro left ends
    rw [exec_nselRise_ends sdi hrun hsel hframe hwaits]
    refine ⟨fun hlen => ?_, fun hlen hcrc => ?_, fun hlen hcrc hcode => ?_, fun hlen hcrc hcode hfull => ?_⟩
    · have hlength : rightLength sdi = false := decide_eq_false hlen
      rw [endFrame_wrongLength hlength, judgeFrame_bad (.inl hlength)]
      rfl
    · rw [endFrame_whole (decide_eq_true hlen), judgeFrame_bad (.inr hcrc)]
      rfl
    · have hlength : rightLength sdi = true := decide_eq_true hlen
      rw [endFrame_whole hlength, judgeFrame_nop hlength hcrc hcode]
      rfl
    · have hlength : rightLength sdi = true := decide_eq_true hlen
      have hnone : hasFree (wholeFrame s) = false := decide_eq_false (Nat.not_lt.2 hfull)
      rw [endFrame_whole hlength, judgeFrame_full hlength hcrc hcode hnone]
      rfl

end Sys2Proof.Machine
end

section
/-! PROOFS. The end of a LIMITS_SET that changed the levels of the supply (R80, R81, R170, R172, R175, R176). -/

namespace Sys2Proof.Machine

section Comparison

variable {s : State}

/-- A supply below the changed warning level takes a NORMAL device to LOW (R172, R176). -/
theorem compareSupply_low (hnormal : s.supply = some .normal) (hlevel : s.reading.vdd < warningLevel s) :
    compareSupply s = enterLow s := by
  simp only [compareSupply, hnormal, belowWarning, hlevel, decide_true, if_true]

/-- A supply above the changed recovery level takes a device in LOW or PARKED back to NORMAL (R175, R176). -/
theorem compareSupply_normal (hlow : s.supply = some .low ∨ s.supply = some .parked)
    (hlevel : recoveryLevel s < s.reading.vdd) : compareSupply s = enterNormal s := by
  rcases hlow with h | h
  · simp only [compareSupply, h, aboveRecovery, hlevel, decide_true, if_true]
  · simp only [compareSupply, h, aboveRecovery, hlevel, decide_true, if_true]

/-- At a changed level itself, or on the near side of it, nothing moves (R170, R176). -/
theorem compareSupply_stands (h : s.supply = some .normal ∧ warningLevel s ≤ s.reading.vdd ∨
    (s.supply = some .low ∨ s.supply = some .parked) ∧ s.reading.vdd ≤ recoveryLevel s) : compareSupply s = s := by
  rcases h with ⟨hnormal, hlevel⟩ | ⟨hlow, hlevel⟩
  · have hstays : belowWarning s = false := decide_eq_false (Nat.not_lt.2 hlevel)
    simp only [compareSupply, hnormal, hstays, Bool.false_eq_true, if_false]
  · have hstays : aboveRecovery s = false := decide_eq_false (Nat.not_lt.2 hlevel)
    rcases hlow with h | h
    · simp only [compareSupply, h, hstays, Bool.false_eq_true, if_false]
    · simp only [compareSupply, h, hstays, Bool.false_eq_true, if_false]

/-- What the comparison with changed levels leaves outlives the answers that follow it; the raw events do where no read is
left waiting (R86, R176). -/
theorem endPosting_compared {p : Posting} (hp : s.posting = some p) (hlevels : p.change.finish = .supplyLevels) :
    Settled (compareSupply (applyChange s p)) (endPosting s) ∧
      ((∀ x ∈ s.port.accepted, isReadSlot x = false) →
        (endPosting s).events = (compareSupply (applyChange s p)).events) := by
  have hfinish : finishState (applyChange s p) p = compareSupply (applyChange s p) := by simp only [finishState, hlevels]
  have hport : (finishState (applyChange s p) p).port = s.port :=
    (congrArg State.port (finishState_applyChange s p) :)
  refine ⟨hfinish ▸ endPosting_settled hp, fun hquiet => ?_⟩
  have hreads : ∀ x ∈ (placed s p).port.accepted, isReadSlot x = false := fun x hx =>
    hquiet x (hport ▸ (placed_settled s p).accepted.subset hx)
  have hevents : (placed s p).events = (finishState (applyChange s p) p).events := (placeAnswer_quiet _ _ _).events
  rw [endPosting_eq hp, (expiryTest_quiet _).events, (settle_quiet hreads).events, hevents, hfinish]

end Comparison

/-- Settles O49: the end compares the supply in the state its change-set leaves, and the answers behind it move the supply no
more. -/
theorem changedLevelsMeetTheSupply : Obligations.ChangedLevelsMeetTheSupply := by
  unfold Obligations.ChangedLevelsMeetTheSupply
  intro s r p hwaits hp hlevels device warning quiet low
  obtain ⟨hsettled, hevents⟩ := endPosting_compared (s := measure s r) hp hlevels
  have hrecords : (endPosting (measure s r)).records = p.change.records :=
    hsettled.records.trans (compareSupply_beside _).records
  refine ⟨_, exec_postingEnd hwaits r, hrecords, fun hnormal hlevel => ?_, fun hlow hlevel => ?_, fun hstands => ?_⟩
  · rw [compareSupply_low (s := applyChange (measure s r) p) hnormal hlevel, enterLow_eq, ← latchBit_true,
      latchBit_eq_latchEvent] at hsettled hevents
    exact ⟨hsettled.supply, hsettled.guard, hsettled.supplyLow, hevents⟩
  · rw [compareSupply_normal (s := applyChange (measure s r) p) hlow hlevel, enterNormal_eq] at hsettled hevents
    exact ⟨hsettled.supply, hsettled.guard, hsettled.supplyLow, hevents⟩
  · rw [compareSupply_stands (s := applyChange (measure s r) p) hstands] at hsettled hevents
    exact ⟨hsettled.supply, hsettled.guard, hsettled.supplyLow, hevents⟩

end Sys2Proof.Machine
end

section
/-! PROOFS. The Link Port under every step: a frame frees the slot it delivers and fills a FREE one, answers move slots from
the ACCEPTED to the delivery order, a loss of the volatile state empties the port, and every other row leaves it (R94, R178,
R183 to R187, R189). -/

namespace Sys2Proof.Machine

/-! What keeps the port's invariant -/

/-- A change that leaves the Link Port, and stops no device that runs. -/
structure BesidePort (s t : State) : Prop where
  port : t.port = s.port
  running : running s = true → running t = true

theorem BesidePort.refl (s : State) : BesidePort s s := ⟨rfl, id⟩

theorem BesidePort.trans {s t u : State} (h : BesidePort s t) (k : BesidePort t u) : BesidePort s u :=
  ⟨k.port.trans h.port, fun hs => k.running (h.running hs)⟩

theorem BesidePort.portInv {s t : State} (h : BesidePort s t) (hs : portInv s = true) : portInv t = true := by
  rw [portInv_iff] at hs ⊢
  obtain ⟨hslots, hoffered, hidle⟩ := hs
  rw [h.port]
  exact ⟨hslots, hoffered, hidle.imp_left h.running⟩

/-- With no frame and no offer, only the slots matter, whether the device runs or not (R184, R189). -/
theorem portInv_of_idle {s : State} (hslots : SlotsOk s.port) (hoffered : s.port.offered = none)
    (hframe : s.port.frame = none) : portInv s = true :=
  (portInv_iff s).2 ⟨hslots, fun p hp => (by rw [hoffered] at hp; cases hp), .inr ⟨hframe, hoffered⟩⟩

/-- The port at power-up holds no slot (R183). -/
theorem portInv_of_powerUp {s : State} {n : Nat} (h : s.port = portAtPowerUp n) : portInv s = true :=
  portInv_of_idle (by rw [h]; simp [SlotsOk, portAtPowerUp, placesRise]) (by rw [h]; rfl) (by rw [h]; rfl)

/-- Slots that become FREE leave the others in order (R94, R185). -/
theorem SlotsOk.freed {p p' : LinkPort} (h : SlotsOk p) (hacc : p'.accepted.Sublist p.accepted)
    (hdel : p'.delivery.Sublist p.delivery) (hnext : p'.nextPlace = p.nextPlace) : SlotsOk p' := by
  obtain ⟨hcount, hrise, hbelow, hnodup⟩ := h
  rw [placesRise_iff] at hrise
  obtain ⟨hordered, hbound⟩ := hrise
  refine ⟨(Nat.add_le_add hacc.length_le hdel.length_le).trans hcount, ?_, fun a ha => ?_,
    hnodup.sublist ((hacc.map _).append (hdel.map _))⟩
  · rw [placesRise_iff, hnext]
    exact ⟨hordered.sublist hacc, fun q hq => hbound q (hacc.subset hq)⟩
  · rw [hnext]
    exact hbelow a (hdel.subset ha)

/-! Acceptance -/

/-- A FREE slot takes the next place, behind every slot in use (R183, R186). -/
theorem SlotsOk.addSlot {s : State} {q : Slot} (h : SlotsOk s.port) (hfree : hasFree s = true)
    (hplace : q.place = s.port.nextPlace) : SlotsOk (addSlot s q).port := by
  obtain ⟨hcount, hrise, hbelow, hnodup⟩ := h
  rw [placesRise_iff] at hrise
  obtain ⟨hordered, hbound⟩ := hrise
  have hroom : s.port.accepted.length + s.port.delivery.length < Config.nPortSlots := of_decide_eq_true hfree
  rw [addSlot_port]
  refine ⟨?count, ?rise, fun a ha => Nat.lt_succ_of_lt (hbelow a ha), ?nodup⟩
  case count =>
    simp only [List.length_append, List.length_singleton]
    omega
  case rise =>
    rw [placesRise_iff, List.pairwise_append]
    refine ⟨⟨hordered, List.pairwise_singleton _ _, fun p hp r hr => ?_⟩, fun p hp => ?_⟩
    · rw [List.mem_singleton.1 hr, hplace]
      exact hbound p hp
    · rcases List.mem_append.1 hp with hp | hp
      · exact Nat.lt_succ_of_lt (hbound p hp)
      · rw [List.mem_singleton.1 hp, hplace]
        exact Nat.lt_succ_self _
  case nodup =>
    have hnew : s.port.nextPlace ∉ s.port.accepted.map Slot.place ++ s.port.delivery.map (fun a => a.slot.place) := by
      simp only [List.mem_append, List.mem_map, not_or]
      exact ⟨fun ⟨p, hp, he⟩ => (hbound p hp).ne he, fun ⟨a, ha, he⟩ => (hbelow a ha).ne he⟩
    rw [List.map_append, List.append_assoc, List.map_singleton, List.singleton_append, hplace]
    exact List.nodup_middle.2 (List.nodup_cons.2 ⟨hnew, hnodup⟩)

theorem mem_addSlot (s : State) (q : Slot) : q ∈ (addSlot s q).port.accepted :=
  List.mem_append_right _ (List.mem_singleton_self q)

theorem SlotsOk.answerBlocked {s : State} {q : Slot} (h : SlotsOk s.port) (hq : q ∈ s.port.accepted) :
    SlotsOk (answerBlocked s q).port := by
  unfold Machine.answerBlocked
  split
  · exact h
  · split
    · exact SlotsOk.answer _ h hq
    · exact h

/-- Acceptance fills one FREE slot, which it may answer at once (R186). -/
theorem SlotsOk.accept {s : State} (h : SlotsOk s.port) (hfree : hasFree s = true) (code tag : Byte) (ps : List Byte) :
    SlotsOk (accept s code tag ps).port := by
  have added : ∀ serials, SlotsOk (Machine.addSlot s (newSlot s code tag ps serials)).port :=
    fun serials => h.addSlot hfree rfl
  have answered : ∀ r, SlotsOk (answerNow s code tag ps r).port :=
    fun r => SlotsOk.answer _ (added []) (mem_addSlot s _)
  unfold Machine.accept
  split
  · exact answered _
  · exact answered _
  · exact answered _
  · unfold goOn
    simp only
    split
    · exact added _
    · exact (added _).answerBlocked (mem_addSlot s _)

/-! Frames -/

theorem SlotsOk.deliver {s : State} (h : SlotsOk s.port) (sdi : List Bool) : SlotsOk (deliver s sdi).port := by
  unfold Machine.deliver
  split
  · exact h
  · split
    · exact h.freed (List.Sublist.refl _) List.filter_sublist rfl
    · exact h

theorem SlotsOk.judgeFrame {s : State} (h : SlotsOk s.port) (sdi : List Bool) : SlotsOk (judgeFrame s sdi).port := by
  unfold Machine.judgeFrame
  split
  · exact h
  · split
    · split
      · exact h
      · split
        · next hfree => exact SlotsOk.accept (s := setFrameFlags s false false) h hfree _ _ _
        · exact h
    · exact h

/-- The head of the delivery order is offered as a frame begins (R184). -/
theorem selFall_portInv {s : State} (hs : portInv s = true) : portInv (selFall s) = true := by
  unfold selFall
  split
  · exact hs
  · simp only
    split
    · next hrun => exact (portInv_iff _).2 ⟨((portInv_iff s).1 hs).1, fun p hp => hp, .inl hrun⟩
    · exact BesidePort.portInv ⟨rfl, id⟩ hs

/-- The offer is over as a frame ends (R185). -/
theorem selRise_portInv {s : State} (hs : portInv s = true) (sdi : List Bool) : portInv (selRise sdi s) = true := by
  have hslots : SlotsOk s.port := ((portInv_iff s).1 hs).1
  unfold selRise
  split
  · simp only
    split
    · have hframe : SlotsOk (judgeFrame (deliver { s with nSelLow := false } sdi) sdi).port :=
        (SlotsOk.deliver (s := { s with nSelLow := false }) hslots sdi).judgeFrame sdi
      exact portInv_of_idle hframe rfl rfl
    · exact BesidePort.portInv ⟨rfl, id⟩ hs
  · exact hs

/-! Reads and postings -/

theorem readsServed_portInv {s : State} (hs : portInv s = true) : portInv (readsServed s) = true :=
  (readsServed_settled s).portInv ((portInv_iff s).1 hs).1.readsServed hs

/-- The row of a read answers slots, and does nothing else to the port (R86). -/
theorem exec_read_portInv {i : Instr} {s t : State} (hi : isRead i = true) (hs : portInv s = true)
    (h : exec i s = .next t) : portInv t = true := by
  obtain ⟨⟨s1, a⟩, hserve⟩ := Option.isSome_iff_exists.1 (isRead_iff_serve i s ▸ hi)
  obtain ⟨f, hf, hrow⟩ := exec_read hserve
  have hsettled := exec_read_settled hi h
  obtain rfl := Host.Outcome.next.inj (hrow.symm.trans h)
  rcases serveRow_cases s i f with hr | ⟨q, hserved, hr⟩
  · rw [hr]
    exact readsServed_portInv hs
  · refine hsettled.portInv ?_ hs
    rw [hr, hf]
    exact (((portInv_iff s).1 hs).1.served hserved hserve).settle

theorem grantLink_besidePort (s : State) (i : Instr) (body : Draft → Draft × Answer) :
    BesidePort s (grantLink s i body) := by
  rcases grantLink_cases s i body with h | ⟨q, -, -, -, h⟩ <;> rw [h]
  · exact .refl s
  · exact ⟨rfl, id⟩

theorem grantInternal_besidePort (s : State) (k : Kind) (item : Item) (body : Draft → Draft) :
    BesidePort s (grantInternal s k item body) := by
  rcases grantInternal_cases s k item body with h | ⟨-, -, h⟩ <;> rw [h]
  · exact .refl s
  · exact ⟨rfl, id⟩

theorem expiryGrant_besidePort (s : State) : BesidePort s (expiryGrant s) := by
  unfold expiryGrant
  split
  · exact .refl s
  · exact grantInternal_besidePort _ _ _ _

theorem stepGrant_besidePort (s : State) : BesidePort s (stepGrant s) := by
  unfold stepGrant
  split
  · exact .refl s
  · exact grantInternal_besidePort _ _ _ _

theorem latchGrant_besidePort (s : State) : BesidePort s (latchGrant s) := by
  unfold latchGrant
  split
  · exact .refl s
  · exact grantInternal_besidePort _ _ _ _

/-- A grant leaves the port: the slot of the request it grants stays ACCEPTED until its posting ends (R81, R88). -/
theorem exec_grant_besidePort {i : Instr} {s t : State} (hi : isGrant i = true) (h : exec i s = .next t) :
    BesidePort (readsServed s) t := by
  rcases isGrant_cases hi with rfl | rfl | rfl | rfl | ⟨hreq, hread⟩
  · obtain rfl := Host.Outcome.next.inj h
    exact expiryGrant_besidePort _
  · obtain rfl := Host.Outcome.next.inj h
    exact grantInternal_besidePort _ _ _ _
  · obtain rfl := Host.Outcome.next.inj h
    exact stepGrant_besidePort _
  · obtain rfl := Host.Outcome.next.inj h
    exact latchGrant_besidePort _
  · obtain ⟨body, hrow⟩ := exec_posting hreq hread
    obtain rfl := Host.Outcome.next.inj ((hrow s).symm.trans h)
    exact grantLink_besidePort _ _ _

/-- The end of a posting answers slots, and does nothing else to the port (R81, R86). -/
theorem endPosting_portInv {s : State} (hs : portInv s = true) : portInv (endPosting s) = true := by
  cases hp : s.posting with
  | none => rw [endPosting_idle hp]; exact hs
  | some p =>
    have hchanges : BesidePort s (finishState (applyChange s p) p) := by
      rw [finishState_applyChange]
      exact ⟨rfl, id⟩
    have hfinish : portInv (finishState (applyChange s p) p) = true := hchanges.portInv hs
    refine (endPosting_settled hp).portInv ?_ hfinish
    rw [endPosting_eq hp, expiryTest_port]
    exact (SlotsOk.placeAnswer _ _ ((portInv_iff _).1 hfinish).1).settle

/-! Time, nRESET and the supply -/

theorem tickClock_besidePort (s : State) : BesidePort s (tickClock s) := by
  unfold tickClock
  split
  · refine ⟨advance_port s _, fun hs => ?_⟩
    have htests := (alarmTest_settled (setValue s (s.clock.value + 1)) s.clock.value (s.clock.value + 1)).trans
      (expiryTest_settled _)
    exact htests.running.trans hs
  · exact .refl s

/-- The fall of nRESET frees the ACCEPTED slots and ends the frame; the ANSWERED slots stand (R94, R189). -/
theorem resetFall_portInv {s : State} (hs : portInv s = true) : portInv (resetFall s) = true := by
  unfold resetFall
  split
  · exact hs
  · split
    · have hslots : SlotsOk (endPosting s).port := ((portInv_iff _).1 (endPosting_portInv hs)).1
      exact portInv_of_idle (hslots.freed (List.nil_sublist _) (List.Sublist.refl _) rfl) rfl rfl
    · next hstopped =>
      obtain ⟨hslots, -, hidle⟩ := (portInv_iff s).1 hs
      obtain ⟨hframe, hoffered⟩ := hidle.resolve_left (by simp [running, hstopped])
      exact portInv_of_idle hslots hoffered hframe

theorem evaluations_besidePort (s : State) : BesidePort s (evalTables (firstEvaluation s)) := by
  have htables : BesidePort (firstEvaluation s) (evalTables (firstEvaluation s)) := ⟨rfl, id⟩
  refine BesidePort.trans ?_ htables
  unfold firstEvaluation
  split
  · exact ⟨rfl, id⟩
  · exact ⟨rfl, id⟩

theorem raiseHeld_besidePort (s : State) : BesidePort s (raiseHeld s) := by
  rw [raiseHeld_eq]
  exact ⟨rfl, id⟩

theorem expiryTest_besidePort (s : State) : BesidePort s (expiryTest s) :=
  ⟨expiryTest_port s, fun hs => (expiryTest_settled s).running.trans hs⟩

/-- The release of nRESET lets the device run on the port it finds (R179). -/
theorem resetRelease_besidePort (s : State) : BesidePort s (resetRelease s) := by
  have hruns : ∀ t : State, t.port = s.port → t.powered = s.powered → t.nResetLow = false → BesidePort s t := by
    refine fun t hport hpowered hreset => ⟨hport, fun hs => ?_⟩
    rw [running, Bool.and_eq_true] at hs ⊢
    exact ⟨hpowered.trans hs.1, by rw [hreset]; rfl⟩
  unfold resetRelease
  split
  · simp only
    split
    · have hrestart : BesidePort s { s with nResetLow := false, lastKind := .settlement, posting := none } :=
        hruns _ rfl rfl rfl
      exact ((hrestart.trans (raiseHeld_besidePort _)).trans (evaluations_besidePort _)).trans (expiryTest_besidePort _)
    · exact hruns _ rfl rfl rfl
  · exact .refl s

/-- A device that starts has its port empty (R178, R183). -/
theorem powerOn_portInv {s : State} (hs : portInv s = true) : portInv (powerOn s) = true := by
  unfold powerOn
  split
  · simp only
    split
    · exact portInv_of_powerUp (n := s.port.nextPlace) rfl
    · exact portInv_of_powerUp (n := s.port.nextPlace) (evaluations_besidePort _).port
  · exact hs

/-- A device that stops loses its port (R177). -/
theorem stopDevice_portInv {s : State} (hs : portInv s = true) : portInv (stopDevice s) = true := by
  unfold stopDevice
  split
  · exact portInv_of_powerUp (n := (endPosting s).port.nextPlace) rfl
  · exact hs

theorem supplyFall_besidePort (s : State) : BesidePort s (supplyFall s) := by
  unfold supplyFall
  split
  · exact ⟨rfl, id⟩
  · exact .refl s

theorem supplyRise_besidePort (s : State) : BesidePort s (supplyRise s) := by
  unfold supplyRise
  split
  · rw [enterNormal_eq]
    exact ⟨rfl, id⟩
  · exact .refl s

/-- The entry to PARKED answers slots, and does nothing else to the port (R93). -/
theorem guardRunsOut_portInv {s : State} (hs : portInv s = true) : portInv (guardRunsOut s) = true := by
  unfold guardRunsOut
  split
  · have hentered : BesidePort s
        ((evalSupplyLow { s with supply := some .parked, guard := none } true).raise .parkChanged) := ⟨rfl, id⟩
    have hparked := hentered.portInv hs
    exact (answerParked_settled _).portInv ((portInv_iff _).1 hparked).1.answerParked hparked
  · exact hs

/-! Rows -/

/-- Every row keeps the port: a read that waits is served, and then the row begins or ends a frame, answers slots, empties
the port or leaves it. -/
theorem exec_portInv {i : Instr} {s t : State} (hs : portInv s = true) (h : exec i s = .next t) : portInv t = true := by
  have served : portInv (readsServed s) = true := readsServed_portInv hs
  have measured : ∀ r, portInv (measure (readsServed s) r) = true := fun r => BesidePort.portInv ⟨rfl, id⟩ served
  by_cases hread : isRead i = true
  · exact exec_read_portInv hread hs h
  by_cases hgrant : isGrant i = true
  · exact (exec_grant_besidePort hgrant h).portInv served
  cases i <;> first
    | exact absurd rfl hread
    | exact absurd rfl hgrant
    | obtain rfl := Host.Outcome.next.inj h
  case nselFall => exact selFall_portInv served
  case nselRise sdi => exact selRise_portInv served sdi
  case tick => exact (tickClock_besidePort _).portInv served
  case nresetFall => exact resetFall_portInv served
  case nresetRelease r => exact (resetRelease_besidePort _).portInv (measured r)
  case powerUp r charged =>
    have charge : BesidePort (measure (readsServed s) r) { measure (readsServed s) r with vhold := charged } := ⟨rfl, id⟩
    exact powerOn_portInv (charge.portInv (measured r))
  case supplyStop r => exact stopDevice_portInv (measured r)
  case supplyBelowWarning r => exact (supplyFall_besidePort _).portInv (measured r)
  case supplyAboveRecovery r => exact (supplyRise_besidePort _).portInv (measured r)
  case guardTimerRunsOut r => exact guardRunsOut_portInv (measured r)
  case postingEnd r => exact endPosting_portInv (measured r)

/-- Settles O55, row by row: a frame takes a slot only where one is FREE, at a place no slot has had, and answers move slots
without filling any. -/
theorem stepKeepsThePort : Obligations.StepKeepsThePort := by
  unfold Obligations.StepKeepsThePort
  intro s t hs h
  unfold step at h
  split at h
  · obtain rfl := Host.Outcome.next.inj h
    exact hs
  · next c rest _ =>
    have queue : portInv { s with pending := rest } = true := hs
    exact exec_portInv queue h

end Sys2Proof.Machine
end

section
/-! PROOFS. The status byte (R184, R188). -/

namespace Sys2Proof.Machine

/-- A byte summed from eight flags by their weights has those flags as its bits, the heaviest first. -/
theorem byteBits_weighted : ∀ b7 b6 b5 b4 b3 b2 b1 b0 : Bool,
    byteBits (BitVec.ofNat 8 (128 * b7.toNat + 64 * b6.toNat + 32 * b5.toNat + 16 * b4.toNat + 8 * b3.toNat +
      4 * b2.toNat + 2 * b1.toNat + b0.toNat)) = [b7, b6, b5, b4, b3, b2, b1, b0] := by decide

/-- The eight facts of the status byte, from bit 7 down (R188). -/
theorem byteBits_statusByte (s : State) : byteBits (statusByte s) =
    [nattnLow s, decide (1 < s.port.delivery.length), !hasFree s, s.port.lastRejected, s.port.lastNotTaken,
      decide (s.supply = some .parked), decide (s.clock.state = .unset),
      decide (s.records.closingBank.state = .computing)] := byteBits_weighted _ _ _ _ _ _ _ _

/-- No slot is FREE once sixteen are in use (R183). -/
theorem not_hasFree (s : State) :
    (!hasFree s) = decide (16 ≤ s.port.accepted.length + s.port.delivery.length) := by
  rw [hasFree, ← decide_not]
  exact decide_eq_decide.2 Nat.not_lt

/-- Settles O7: the fall latches the status byte of the state before it, as the pin is none of its facts. -/
theorem statusByteShowsTheState : Obligations.StatusByteShowsTheState := by
  unfold Obligations.StatusByteShowsTheState
  intro s hsel hrun hwaits
  have hfall := exec_nselFall hsel hwaits
  rw [if_pos hrun] at hfall
  have hbits := byteBits_statusByte s
  rw [not_hasFree] at hbits
  simp only [byteBits, List.cons.injEq, and_true] at hbits
  exact ⟨_, statusByte s, hfall, rfl, by rw [outboundFrame_eq (status := statusByte s) rfl]; rfl, hbits⟩

end Sys2Proof.Machine
end

section
/-! PROOFS. Frames of R191 to R193 written out, and the check word of the nine digits (R182). -/

namespace Sys2Proof

/-- R182's own figure. -/
theorem crcBytes_nineDigits :
    crcBytes [0x31#8, 0x32#8, 0x33#8, 0x34#8, 0x35#8, 0x36#8, 0x37#8, 0x38#8, 0x39#8] = 0x29B1#16 := by
  simp [crcBytes, crcBits, crcBit, byteBits]

/-- The parameters of a well-formed request, with zeros up to byte 29, read as that request (R181, R191). -/
theorem decode_padParams {i : Instr} (hw : WellFormed i = true) {code : Nat} {ps : List Byte}
    (he : encodeRequest i = some (code, ps)) : decodeRequest code (padParams ps) = .ok i := decode_encode hw he _

/-- CONDITIONS_CLEAR of scope CARD reads its serial whatever stands in the merchant field (R160). -/
theorem decodeClear_card_unread {x : Nat} (h : serialOk x = true) (m : Nat) (more : List Byte) :
    decodeClear (beBytes 1 3 ++ beBytes 2 m ++ beBytes 8 x ++ more) = .ok (.conditionsClearCard x) := by
  simp [decodeClear, param_byte, param_behind, param_serial _ h, checked, h]

/-- A release of a period above 7 is answered BAD_PARAMETER (R6, R135). -/
theorem decode_release_outside {ps : List Byte} (h : 7 < param ps 2 1) : decodeRequest 0x44 ps = .badParameter := by
  have hrange : ¬ param ps 2 1 ≤ 7 := Nat.not_le.2 h
  simp [decodeRequest, checked, hrange]

/-- Settles O2: each frame is the encoder's own, but for a merchant field that its scope does not read, a period outside its
range and a code that no request has. -/
theorem framesReadAsLaidOut : Obligations.FramesReadAsLaidOut := by
  unfold Obligations.FramesReadAsLaidOut
  exact ⟨crcBytes_nineDigits, decode_padParams rfl rfl, decode_padParams rfl rfl, decode_padParams rfl rfl,
    decodeClear_card_unread (x := 101) rfl 0xFFFF (List.replicate 17 0x00#8), decode_release_outside (by decide),
    decodeRequest_other _ (by decide)⟩

end Sys2Proof
end
